-- ==== Sys2Proof/Word.lean ====
section
/-! DEFINITION. The word types of the MPL-16A: 32-bit register and line-block words, 8-bit characters, line
numbers 0 to 15 and the byte lanes of one register-window access (R1, R170). -/

namespace Sys2Proof

/-- A 32-bit word of the register window or of a line block. -/
abbrev Word := BitVec 32

/-- An 8-bit character or buffer byte. -/
abbrev Byte := BitVec 8

/-- A line number, 0 to 15. -/
abbrev LineNo := Fin 16

/-- The bytes of a word that one register access addresses: bit `i` is the byte at address `i` of the word, which holds
bits `8 * i + 7` to `8 * i` (DESIGN CHOICE, log entry 39). -/
abbrev Lanes := BitVec 4

/-- A whole-word access addresses all four bytes (R170). -/
abbrev wholeWord : Lanes := 0xF

end Sys2Proof
end

