-- ==== Sys2Proof/Syntax.lean ====
section
/-! DEFINITION. The commands of the MPL-16A, one constructor per row of spec/opcode_table.json. A command is a
register-window access, an answer of host memory, an instant of a line, an instant of the timebase, or the start of a
visit. -/

namespace Sys2Proof

/-- The registers of the window (Table 44). -/
inductive Reg where
  | ident | control | status | command | tableBase | doorbell | lineCmd | eventPeek | eventTake | eventLevel
  | coalesce | cadence | resweep | livenessPeriod | keepalive | power | classIndex | classData | customDivisor
  | faultAddr | faultDesc | conData | conStatus | lineSelect | lineState | lineSetting | lineFrame | lineCounts
  deriving DecidableEq, Repr

/-- How a register may be accessed (R171). -/
inductive RegAccess where
  | readOnly | writeOnly | readWrite
  deriving DecidableEq, Repr

/-- Host memory's answer to a word read (R143): the data, or an error. -/
inductive WordAnswer where
  | ok (data : Word)
  | error
  deriving DecidableEq, Repr

/-- Host memory's answer to a byte read (R143): the data, or an error. -/
inductive ByteAnswer where
  | ok (data : Byte)
  | error
  deriving DecidableEq, Repr

/-- Host memory's answer to a write (R143): accepted, or an error. -/
inductive WriteAnswer where
  | ok
  | error
  deriving DecidableEq, Repr

/-- The commands. A `value` is the whole word the host writes; `lanes` are the bytes a register read or write
addresses; `txn` is the number of the transaction an answer belongs to (R143). -/
inductive Instr where
  /-- COMMAND value 1 (R26). -/
  | start
  /-- COMMAND value 2 (R28). -/
  | stop
  /-- COMMAND value 3 (R27). -/
  | pause
  /-- COMMAND value 4 (R27). -/
  | resume
  /-- COMMAND value 0xA5 (R168). -/
  | hostReset
  /-- Release of RESET# (R168). -/
  | pinReset
  /-- LINE_CMD operation 1 (R42): bits 3:0 name the line. -/
  | cancelRx (value : Word)
  /-- LINE_CMD operation 2 (R42). -/
  | cancelTx (value : Word)
  /-- LINE_CMD operation 3 (R44). -/
  | resetLine (value : Word)
  /-- A whole-word write of DOORBELL (R40). -/
  | doorbell (value : Word)
  /-- A whole-word write of POWER with REQ = 0 (R157). -/
  | reqActive (value : Word)
  /-- A whole-word write of POWER with REQ = 1 (R158). -/
  | reqDoze (value : Word)
  /-- A whole-word write of POWER with REQ = 2 (R160). -/
  | reqStandby (value : Word)
  /-- A whole-word write of CONTROL (R175). -/
  | control (value : Word)
  /-- A whole-word write of KEEPALIVE (R165). -/
  | keepalive (value : Word)
  /-- A whole-word write of LIVENESS_PERIOD (R164). -/
  | livenessPeriod (value : Word)
  /-- A whole-word write of TABLE_BASE (R3). -/
  | tableBase (value : Word)
  /-- A whole-word write of LINE_SETTING (R65). -/
  | lineSetting (value : Word)
  /-- A whole-word write of LINE_FRAME (R65). -/
  | lineFrame (value : Word)
  /-- A whole-word write of CUSTOM_DIVISOR (R46). -/
  | customDivisor (value : Word)
  /-- A whole-word write of CADENCE (R136). -/
  | cadence (value : Word)
  /-- A whole-word write of RESWEEP (R41). -/
  | resweep (value : Word)
  /-- A whole-word write of COALESCE (R141). -/
  | coalesce (value : Word)
  /-- A whole-word write of CLASS_DATA (R100). -/
  | classDataWrite (value : Word)
  /-- A read of CLASS_DATA (R100). -/
  | classDataRead (lanes : Lanes)
  /-- A whole-word write of CON_DATA (R153). -/
  | conDataWrite (value : Word)
  /-- A read of CON_DATA (R152). -/
  | conDataRead (lanes : Lanes)
  /-- A read of CON_STATUS (R151). -/
  | conStatus (lanes : Lanes)
  /-- A read of EVENT_TAKE (R135). -/
  | eventTake (lanes : Lanes)
  /-- A read of EVENT_LEVEL (R137). -/
  | eventLevel (lanes : Lanes)
  /-- A read of STATUS (R173, R174). -/
  | status (lanes : Lanes)
  /-- A register-window write that no other row names (R170, R171). -/
  | registerWrite (offset : BitVec 8) (lanes : Lanes) (value : Word)
  /-- The sequencer chooses a line and begins a visit (R32). -/
  | visit
  /-- A word read is answered (R11). -/
  | wordRead (txn : Nat) (answer : WordAnswer)
  /-- A word write is answered (R16). -/
  | wordWrite (txn : Nat) (answer : WriteAnswer)
  /-- A byte write is answered (R71). -/
  | byteWrite (txn : Nat) (answer : WriteAnswer)
  /-- A byte read is answered (R87). -/
  | byteRead (txn : Nat) (answer : ByteAnswer)
  /-- An outstanding transaction times out (R143). -/
  | timeout
  /-- A received character completes (R49): the levels sampled for its data bits (least significant first, aligned
  right), its parity bit where the format has one, and its first stop bit. -/
  | completion (line : LineNo) (data : Byte) (parityBit stopBit : Bool)
  /-- A completion with every bit sampled at space (R50). -/
  | breakSeen (line : LineNo)
  /-- The mark that RECOVER or wake recovery waits for has been seen (R50, R163). -/
  | recoverEnd (line : LineNo)
  /-- The shifter ends what it was sending (R122). -/
  | shifterEmpty (line : LineNo)
  /-- A generated break ends (R56). -/
  | breakDone (line : LineNo)
  /-- A beat boundary (R2): bit `n` of `sense` is the level of line n's SENSE pin at this instant. -/
  | beatBoundary (sense : BitVec 16)
  /-- The resweep count has reached RESWEEP (R41). -/
  | resweepExpiry
  /-- The cadence count has reached CADENCE (R136). -/
  | tick
  /-- The hold timer has reached its limit (R62). -/
  | holdDue (line : LineNo)
  /-- The idle-gap timer reaches its limit (R61). -/
  | idleDue (line : LineNo)
  /-- The guard counter has reached 0 (R166). -/
  | guardExpiry
  /-- The idle condition has held across two beat boundaries (R158). -/
  | automaticDoze
  /-- The part enters STANDBY from STANDBY_ENTRY (R161). -/
  | standby
  /-- Raw edges at one instant (R162): bit `n` of `starts` is a start edge on line n's RXD pin, bit `n` of `senses` a
  change of its SENSE pin. -/
  | wakeEdge (starts senses : BitVec 16)
  /-- The settle period ends (R163). -/
  | wakingEnd
  /-- A falling edge of the receiver input in SEARCH (R48). -/
  | fallingEdge (line : LineNo)
  /-- The sample at the centre of the would-be start bit (R48). -/
  | startBitSample (line : LineNo) (level : Bool)
  deriving DecidableEq, Repr

end Sys2Proof
end

