-- ==== Sys2Proof/Decode.lean ====
section
/-! DEFINITION. How a register-window access spells a command: the register map (Table 44), the fields of a written
word, and the row of spec/opcode_table.json that a whole-word write is. The table gives no row any bits, so
`decodeTableWord` refuses every word. -/

namespace Sys2Proof

/-- Bit `i` of a word. -/
def bitAt (w : Word) (i : Nat) : Bool := w.getLsbD i

/-- The line that bits 3:0 of a written word name (R40, R42, R176). -/
def lineOf (w : Word) : LineNo := ⟨w.toNat % 16, Nat.mod_lt _ (by decide)⟩

/-- The register at an offset of the window, `none` where the offset names no register (Table 44, R170). Bits 1:0 of
the offset only select bytes of the word. -/
def regAt (offset : BitVec 8) : Option Reg :=
  match offset.toNat / 4 with
  | 0 => some .ident
  | 1 => some .control
  | 2 => some .status
  | 3 => some .command
  | 4 => some .tableBase
  | 5 => some .doorbell
  | 6 => some .lineCmd
  | 7 => some .eventPeek
  | 8 => some .eventTake
  | 9 => some .eventLevel
  | 10 => some .coalesce
  | 11 => some .cadence
  | 12 => some .resweep
  | 13 => some .livenessPeriod
  | 14 => some .keepalive
  | 15 => some .power
  | 16 => some .classIndex
  | 17 => some .classData
  | 18 => some .customDivisor
  | 19 => some .faultAddr
  | 20 => some .faultDesc
  | 21 => some .conData
  | 22 => some .conStatus
  | 23 => some .lineSelect
  | 24 => some .lineState
  | 25 => some .lineSetting
  | 26 => some .lineFrame
  | 27 => some .lineCounts
  | _ => none

/-- The offset of a register (Table 44). -/
def regOffset : Reg → BitVec 8
  | .ident => 0x00
  | .control => 0x04
  | .status => 0x08
  | .command => 0x0C
  | .tableBase => 0x10
  | .doorbell => 0x14
  | .lineCmd => 0x18
  | .eventPeek => 0x1C
  | .eventTake => 0x20
  | .eventLevel => 0x24
  | .coalesce => 0x28
  | .cadence => 0x2C
  | .resweep => 0x30
  | .livenessPeriod => 0x34
  | .keepalive => 0x38
  | .power => 0x3C
  | .classIndex => 0x40
  | .classData => 0x44
  | .customDivisor => 0x48
  | .faultAddr => 0x4C
  | .faultDesc => 0x50
  | .conData => 0x54
  | .conStatus => 0x58
  | .lineSelect => 0x5C
  | .lineState => 0x60
  | .lineSetting => 0x64
  | .lineFrame => 0x68
  | .lineCounts => 0x6C

/-- The access type of each register (Table 44). -/
def regAccess : Reg → RegAccess
  | .ident | .status | .eventPeek | .eventTake | .eventLevel | .faultAddr | .faultDesc | .conStatus | .lineState
  | .lineCounts => .readOnly
  | .command | .doorbell | .lineCmd | .keepalive => .writeOnly
  | .control | .tableBase | .coalesce | .cadence | .resweep | .livenessPeriod | .power | .classIndex | .classData
  | .customDivisor | .conData | .lineSelect | .lineSetting | .lineFrame => .readWrite

/-- The row that a whole-word write of COMMAND is, by its full 32-bit value (R25). -/
def commandRow (value : Word) : Option Instr :=
  if value = 1 then some .start
  else if value = 2 then some .stop
  else if value = 3 then some .pause
  else if value = 4 then some .resume
  else if value = 0xA5 then some .hostReset
  else none

/-- The row that a whole-word write of LINE_CMD is, by bits 9:8 (Table 17). -/
def lineCmdRow (value : Word) : Option Instr :=
  if value.extractLsb' 8 2 = 1#2 then some (.cancelRx value)
  else if value.extractLsb' 8 2 = 2#2 then some (.cancelTx value)
  else if value.extractLsb' 8 2 = 3#2 then some (.resetLine value)
  else none

/-- The row that a whole-word write of POWER is, by REQ in bits 1:0 (R157). -/
def powerRow (value : Word) : Option Instr :=
  if value.extractLsb' 0 2 = 0#2 then some (.reqActive value)
  else if value.extractLsb' 0 2 = 1#2 then some (.reqDoze value)
  else if value.extractLsb' 0 2 = 2#2 then some (.reqStandby value)
  else none

/-- The row of the table, other than REGISTER_WRITE, that a whole-word write of `value` to a register is. -/
def writeRow (r : Reg) (value : Word) : Option Instr :=
  match r with
  | .command => commandRow value
  | .lineCmd => lineCmdRow value
  | .power => powerRow value
  | .doorbell => some (.doorbell value)
  | .control => some (.control value)
  | .keepalive => some (.keepalive value)
  | .livenessPeriod => some (.livenessPeriod value)
  | .tableBase => some (.tableBase value)
  | .lineSetting => some (.lineSetting value)
  | .lineFrame => some (.lineFrame value)
  | .customDivisor => some (.customDivisor value)
  | .cadence => some (.cadence value)
  | .resweep => some (.resweep value)
  | .coalesce => some (.coalesce value)
  | .classData => some (.classDataWrite value)
  | .conData => some (.conDataWrite value)
  | .ident | .status | .eventPeek | .eventTake | .eventLevel | .classIndex | .faultAddr | .faultDesc | .conStatus
  | .lineSelect | .lineState | .lineCounts => none

/-- The command that a register-window write is: its own row where it has one, REGISTER_WRITE otherwise. -/
def decodeWrite (offset : BitVec 8) (lanes : Lanes) (value : Word) : Instr :=
  if lanes = wholeWord then
    match regAt offset with
    | some r => (writeRow r value).getD (.registerWrite offset lanes value)
    | none => .registerWrite offset lanes value
  else .registerWrite offset lanes value

/-- The register-window write that a command is: its offset, its lanes and its written value; `none` for a command
that is no write. -/
def encodeWrite : Instr → Option (BitVec 8 × Lanes × Word)
  | .start => some (0x0C, wholeWord, 1)
  | .stop => some (0x0C, wholeWord, 2)
  | .pause => some (0x0C, wholeWord, 3)
  | .resume => some (0x0C, wholeWord, 4)
  | .hostReset => some (0x0C, wholeWord, 0xA5)
  | .cancelRx v => some (0x18, wholeWord, v)
  | .cancelTx v => some (0x18, wholeWord, v)
  | .resetLine v => some (0x18, wholeWord, v)
  | .doorbell v => some (0x14, wholeWord, v)
  | .reqActive v => some (0x3C, wholeWord, v)
  | .reqDoze v => some (0x3C, wholeWord, v)
  | .reqStandby v => some (0x3C, wholeWord, v)
  | .control v => some (0x04, wholeWord, v)
  | .keepalive v => some (0x38, wholeWord, v)
  | .livenessPeriod v => some (0x34, wholeWord, v)
  | .tableBase v => some (0x10, wholeWord, v)
  | .lineSetting v => some (0x64, wholeWord, v)
  | .lineFrame v => some (0x68, wholeWord, v)
  | .customDivisor v => some (0x48, wholeWord, v)
  | .cadence v => some (0x2C, wholeWord, v)
  | .resweep v => some (0x30, wholeWord, v)
  | .coalesce v => some (0x28, wholeWord, v)
  | .classDataWrite v => some (0x44, wholeWord, v)
  | .conDataWrite v => some (0x54, wholeWord, v)
  | .registerWrite offset lanes v => some (offset, lanes, v)
  | .pinReset | .classDataRead _ | .conDataRead _ | .conStatus _ | .eventTake _ | .eventLevel _ | .status _ | .visit
  | .wordRead _ _ | .wordWrite _ _ | .byteWrite _ _ | .byteRead _ _ | .timeout | .completion _ _ _ _ | .breakSeen _
  | .recoverEnd _ | .shifterEmpty _ | .breakDone _ | .beatBoundary _ | .resweepExpiry | .tick | .holdDue _
  | .idleDue _ | .guardExpiry | .automaticDoze | .standby | .wakeEdge _ _ | .wakingEnd | .fallingEdge _
  | .startBitSample _ _ => none

/-- The command a table word spells: none, since spec/opcode_table.json gives no row any bits. -/
def decodeTableWord (_nbits _w : Nat) : Option Instr := none

end Sys2Proof
end

