-- ==== Sys2Proof/Config.lean ====
section
/-! DEFINITION. What the manual fixes for every MPL-16A: clock derivations, capacities and the identity word.
The manual leaves no value open to an implementation, so no free value stands here (assumption log, entry 12). -/

namespace Sys2Proof.Config

/-- Reference clock periods per beat (R2). -/
def clocksPerBeat : Nat := 7200

/-- Reference clock periods of the settle period WAKING (R163). -/
def settleClocks : Nat := 2048

/-- Sample ticks per bit period (R45). -/
def ticksPerBit : Nat := 16

/-- Entries a receive queue can hold (R52). -/
def queueCapacity : Nat := 8

/-- Entries a queue may hold before a framed DATA entry joins (R115). -/
def framedDataLimit : Nat := 6

/-- Records the event queue can hold (R127). -/
def eventCapacity : Nat := 32

/-- Queue entries one RX step may handle for the block and frame modes (R67, R117). -/
def rxQuota : Nat := 4

/-- Beats per unit of HOLD_LIMIT (Table 9, R62). -/
def beatsPerHoldUnit : Nat := 64

/-- The value IDENT always reads (R172). -/
def ident : Word := 0x4D500116

end Sys2Proof.Config
end

