-- ==== Sys2Proof/Machine/State.lean ====
section
/-! DEFINITION. The state of the MPL-16A as plain data: the register window, the visit sequencer with its sixteen line
contexts, the sixteen line units, the class table, the event port, the memory engine, the timebase, the power manager
and the console, and the queue of commands that wait. INVENTORY.md names the rule of every field. -/

namespace Sys2Proof.Machine

/-- The seven sequencer states (Table 14). -/
inductive SeqState where
  | stopped | running | pausing | paused | stopping | quiescing | quiesced
  deriving DecidableEq, Repr

/-- The five power states (Table 42). -/
inductive PowerState where
  | active | doze | standbyEntry | standby | waking
  deriving DecidableEq, Repr

/-- The stored request of POWER (R157). -/
inductive PowerReq where
  | active | doze | standby
  deriving DecidableEq, Repr

/-- The two directions of a line. -/
inductive Dir where
  | rx | tx
  deriving DecidableEq, Repr

/-- The event kinds that can be queued (Table 36; NONE is never queued). -/
inductive EventKind where
  | rxEnd | txEnd | status | lineFault | loss | liveness | wake
  deriving DecidableEq, Repr

/-- A record of the event queue (Table 35), with its age in beats (R138). -/
structure EventRec where
  kind : EventKind
  line : LineNo
  a : BitVec 7
  b : Byte
  c : Byte
  age : Nat
  deriving DecidableEq, Repr

/-- The modes of an accepted receive order (Table 7). -/
inductive RxMode where
  | single | block | blockEcho | frame
  deriving DecidableEq, Repr

/-- The modes of an accepted transmit order (Table 7). -/
inductive TxMode where
  | single | block | setting | frame | brk
  deriving DecidableEq, Repr

/-- A receive order as copied at fetch (R14), its progress count, and its marks (R117, R119). -/
structure RxOrder where
  mode : RxMode
  /-- Bits 27:24 of the order word: the two zero bits, QUIET and MARK_STOP. -/
  flags : BitVec 4
  tag : Byte
  datum : Byte
  address : Word
  length : BitVec 16
  count : BitVec 16
  /-- A DATA entry was met when COUNT stood at LENGTH (R117). -/
  overlong : Bool
  /-- The order has handled a DATA entry of its frame (R119). -/
  frameBegun : Bool
  deriving DecidableEq, Repr

/-- A transmit order as copied at fetch (R14), its progress count, and whether its break has started (R91). -/
structure TxOrder where
  mode : TxMode
  /-- Bits 27:24 of the order word: the two zero bits, QUIET and MARK_STOP. -/
  flags : BitVec 4
  tag : Byte
  datum : Byte
  address : Word
  length : BitVec 16
  count : BitVec 16
  /-- The copied SETTING WORD (TX SETTING). -/
  settingWord : Word
  /-- The copied MARK character (TX SETTING). -/
  markChar : Byte
  /-- The copied ESCAPE character (TX SETTING). -/
  escapeChar : Byte
  breakStarted : Bool
  deriving DecidableEq, Repr

/-- The statuses of a received frame (Table 30). -/
inductive FrameStatus where
  | good | badCrc | runt | abortSeen | badEscape | parity | framing | brk | overrun
  deriving DecidableEq, Repr

/-- The entries of a receive queue (Table 21). -/
inductive Entry where
  | data (value : Byte) (parity framing overrunAfter : Bool) (classes : BitVec 4)
  | brk (overrunAfter : Bool)
  | frameEnd (status : FrameStatus)
  deriving DecidableEq, Repr

/-- Who loaded the byte in transmit holding (R54). -/
inductive Source where
  | order | echo | console
  deriving DecidableEq, Repr

/-- The byte in transmit holding with its flags (R54). -/
structure Holding where
  byte : Byte
  first : Bool
  last : Bool
  source : Source
  deriving DecidableEq, Repr

/-- The character format and rate a receiver or shifter works in: a setting word and the line's divisor (R45, R63). -/
structure Format where
  setting : Word
  divisor : Nat
  deriving DecidableEq, Repr

/-- What a shifter that sends characters will become when it ends (R121, R122). -/
inductive Sending where
  /-- One raw character. -/
  | character
  /-- The expanded sequence of a payload byte; `last` where the trailer follows it. -/
  | frame (last : Bool)
  /-- An abort pair. -/
  | abortPair
  deriving DecidableEq, Repr

/-- A part of what the shifter has still to send. It is put into characters when it starts, with the frame characters
then in force (R63, R111). -/
inductive Piece where
  /-- The MARK that opens a frame. -/
  | opening
  /-- A payload byte. -/
  | payload (value : Byte)
  /-- The CRC high byte. -/
  | crcHigh
  /-- The CRC low byte. -/
  | crcLow
  /-- The MARK that closes a frame. -/
  | closing
  /-- One character as it is: a raw byte, a character of an abort pair, or the complement after an ESCAPE. -/
  | plain (value : Byte)
  deriving DecidableEq, Repr

/-- Characters being sent one after the other (R55, R121, R122). -/
structure Transmission where
  what : Sending
  /-- The character now on the line. -/
  char : Byte
  /-- What follows it without leaving the shifter. -/
  rest : List Piece
  /-- Reference clock periods since that character started. -/
  clocks : Nat
  /-- The format of the whole sequence (R121). -/
  format : Format
  /-- That character is on the internal loopback route (R60). -/
  loop : Bool
  deriving DecidableEq, Repr

/-- The shifter (Table 18): what it sends, in which format, and whether on the internal loopback route (R60). -/
inductive Shifter where
  | empty
  | sending (t : Transmission)
  /-- A break of the given length in character times, and the reference periods since it started (R56). -/
  | brk (times : Byte) (format : Format) (clocks : Nat) (loop : Bool)
  /-- The bit period of mark after a break, in the break's own format (log entry 41), and the reference periods since it
  started (R56). -/
  | brkMark (format : Format) (clocks : Nat) (loop : Bool)
  deriving DecidableEq, Repr

/-- The transmit framing phases (Table 31). -/
inductive TxPhase where
  | idle | opening | payload | crcHi | crcLo | close | abort
  deriving DecidableEq, Repr

/-- The framed receive machine's states, with the poison status in DISCARD (R112). -/
inductive FrameRx where
  | hunt | collect | escaped
  | discard (poison : FrameStatus)
  deriving DecidableEq, Repr

/-- The receiver phases (section 3.3); wake recovery is a form of RECOVER (R163). -/
inductive RxPhase where
  | search | start | assemble | recover | wakeRecover
  deriving DecidableEq, Repr

/-- The receiver (Table 18): its phase and, from the falling edge on, the format and input source of its character
(R60, R63). Its position and the character being assembled are counted where it listens to the internal input; where it
listens to the pin, its rows stand for them (log entry 6). -/
structure Receiver where
  phase : RxPhase
  format : Format
  loop : Bool
  /-- Reference clock periods since the falling edge (R48, R49); in RECOVER and wake recovery since they began or since
  their last sample at logic 0 (R50, R163). -/
  clocks : Nat
  /-- In SEARCH, the level of the internal input at the preceding sample (R48). -/
  before : Bool
  /-- The bits sampled so far, the start bit first (R48, R49). -/
  samples : List Bool
  deriving DecidableEq, Repr

/-- The previous SENSE sample (R57, R58): none since a reset, none since its source changed, or a level. -/
inductive SensePrev where
  | afterReset | discarded
  | sample (level : Bool)
  deriving DecidableEq, Repr

/-- One line: its line context (sequencer) and its line unit (Table 18). -/
structure Line where
  -- line context
  attn : Bool
  statusPending : Bool
  changeCount : Nat
  /-- The change count before the level accepted at the last beat boundary was counted, while that instant lasts (R36;
  log entry 32). -/
  countBefore : Option Nat
  lastReported : Bool
  faulted : Bool
  rxCancel : Bool
  txCancel : Bool
  rxOrder : Option RxOrder
  txOrder : Option TxOrder
  drainWait : Bool
  ownByte : Bool
  remnant : Bool
  -- conditions the line unit raises
  idleDue : Bool
  holdDue : Bool
  underrunDue : Bool
  breakDone : Bool
  -- line unit
  setting : Word
  markChar : Byte
  escapeChar : Byte
  receiver : Receiver
  queue : List Entry
  holding : Option Holding
  shifter : Shifter
  frameRx : FrameRx
  tail : List Byte
  frameBytes : Nat
  rxCrc : BitVec 16
  txPhase : TxPhase
  txCrc : BitVec 16
  abortPending : Bool
  inbandHold : Bool
  pacing : Bool
  sensePrev : SensePrev
  sense : Bool
  /-- The idle-gap timer has been started and has neither expired nor been stopped by a change of framing (R61). -/
  idleStarted : Bool
  /-- The bit periods the idle-gap timer has counted (R61). -/
  idleBits : Nat
  /-- Reference clock periods within the bit period being counted. -/
  idleClocks : Nat
  holdCount : Nat
  holdStopped : Bool
  holdReached : Bool
  framesDropped : Nat
  deriving DecidableEq, Repr

/-- The memory access kinds (Table 40). -/
inductive AccessKind where
  | rxOrderFetch | rxParameterFetch | rxBuffer | rxWriteback
  | txOrderFetch | txParameterFetch | txBuffer | txWriteback
  deriving DecidableEq, Repr

/-- The two causes of a memory fault (R143). -/
inductive FaultCause where
  | busError | timeout
  deriving DecidableEq, Repr

/-- The four transaction kinds (Table 38). -/
inductive MemRequest where
  | wordRead
  | wordWrite (data : Word)
  | byteRead
  | byteWrite (data : Byte)
  deriving DecidableEq, Repr

/-- The outstanding transaction (R142): its number, what it asks of host memory, and the beat boundaries since. -/
structure Txn where
  tag : Nat
  request : MemRequest
  addr : Word
  access : AccessKind
  line : LineNo
  beats : Nat
  deriving DecidableEq, Repr

/-- What a visit waits for: the answer to the transaction it has issued, and what it holds meanwhile. -/
inductive VisitPoint where
  /-- The order word of a fetch, or of a cancel fetch (R11, R43). -/
  | fetchOrder (dir : Dir) (cancel : Bool)
  /-- The ADDRESS word of a buffer mode (R13); `order` is the order word read. -/
  | fetchAddress (dir : Dir) (order : Word)
  /-- The length word of a buffer mode (R13). -/
  | fetchLength (dir : Dir) (order address : Word)
  /-- The setting word of TX SETTING (R13). -/
  | fetchSetting (order : Word)
  /-- The frame word of TX SETTING (R13). -/
  | fetchFrame (order setting : Word)
  /-- The byte write of a receive buffer; `quota` entries may still be handled after it (R71, R117). -/
  | storeByte (quota : Nat)
  /-- The byte read of a transmit buffer (R87, R126). -/
  | loadByte
  /-- The length-word write of a close; `order` is the order word to write next (R16). -/
  | writeLength (dir : Dir) (order : Word)
  /-- The order-word write of a close (R16). -/
  | writeOrder (dir : Dir) (order : Word)
  deriving DecidableEq, Repr

/-- The visit in progress: its line, its snapshot (R32), a held RESET_LINE (R44) and what it waits for. -/
structure Visit where
  line : LineNo
  attn : Bool
  rxCancel : Bool
  txCancel : Bool
  resetHeld : Bool
  point : VisitPoint
  deriving DecidableEq, Repr

/-- FAULT_DESC (Table 39). -/
structure FaultDesc where
  count : Nat
  cause : Option FaultCause
  access : AccessKind
  line : LineNo
  deriving DecidableEq, Repr

/-- The whole part, and the queue of commands that wait. -/
structure State where
  -- register window
  eventIe : Bool
  tickIe : Bool
  conRxIe : Bool
  conTxIe : Bool
  alertIe : Bool
  cmdIgnored : Bool
  writeIgnored : Bool
  tableBase : Word
  customDivisor : BitVec 16
  lineSelect : LineNo
  -- class table
  classIndex : BitVec 8
  classTable : Vector Byte 256
  -- visit sequencer
  seq : SeqState
  position : LineNo
  visit : Option Visit
  lines : Vector Line 16
  -- memory engine
  mem : Option Txn
  faultAddr : Word
  faultDesc : FaultDesc
  -- event port
  events : List EventRec
  overflow : Bool
  lost : Nat
  tick : Bool
  missed : Nat
  threshold : BitVec 2
  ageLimit : Byte
  -- timebase
  beatClocks : Nat
  /-- The level of each SENSE pin at the last beat boundary (R57). -/
  sensePins : BitVec 16
  cadence : BitVec 16
  cadenceCount : Nat
  resweep : BitVec 16
  resweepCount : Nat
  livenessEn : Bool
  livenessPeriod : BitVec 16
  guardCount : Nat
  guardRunning : Bool
  firstKey : Bool
  alertLiveness : Bool
  -- power manager
  power : PowerState
  req : PowerReq
  autoDoze : Bool
  idleBeats : Nat
  wakeEn : BitVec 16
  wakeLoop : BitVec 16
  wakeStart : BitVec 16
  wakeSense : BitVec 16
  resetHeld : Bool
  settleClocks : Nat
  -- console
  txLost : Bool
  -- the model's own
  dozeBarred : Bool
  busData : List Byte
  txnCount : Nat
  pending : List Instr
  deriving DecidableEq, Repr

/-- Why a step could stop with a fault: never. The manual stops the part in no state (NOTES.md, '## Stops'), so this
type has no constructor. Safe. -/
inductive Fault where
  deriving DecidableEq, Repr

/-- Why a step can be refused. -/
inductive Refusal where
  /-- Raised by an arm of `exec` that has no meaning yet. Safe. No arm raises it. -/
  | notModelled (mnemonic : String)
  deriving DecidableEq, Repr

/-- The state of a line after pin reset, HOST_RESET or RESET_LINE (Table 22, Table 43). -/
def Line.reset : Line where
  attn := false
  statusPending := false
  changeCount := 0
  countBefore := none
  lastReported := false
  faulted := false
  rxCancel := false
  txCancel := false
  rxOrder := none
  txOrder := none
  drainWait := false
  ownByte := false
  remnant := false
  idleDue := false
  holdDue := false
  underrunDue := false
  breakDone := false
  setting := 0x00000035
  markChar := 0xA6
  escapeChar := 0xA5
  receiver :=
    { phase := .recover
      format := { setting := 0x00000035, divisor := 48 }
      loop := false
      clocks := 0
      before := true
      samples := [] }
  queue := []
  holding := none
  shifter := .empty
  frameRx := .hunt
  tail := []
  frameBytes := 0
  rxCrc := 0xFFFF
  txPhase := .idle
  txCrc := 0xFFFF
  abortPending := false
  inbandHold := false
  pacing := true
  sensePrev := .afterReset
  sense := false
  idleStarted := false
  idleBits := 0
  idleClocks := 0
  holdCount := 0
  holdStopped := false
  holdReached := false
  framesDropped := 0

/-- The default contents of the Class Table (R99). -/
def defaultClasses : Vector Byte 256 :=
  Vector.ofFn fun i => if i.val < 0x20 ∨ i.val = 0x7F then 0x01 else 0x00

/-- The part right after a pin reset (Table 43, Table 44), with no command waiting. -/
def State.reset : State where
  eventIe := false
  tickIe := false
  conRxIe := false
  conTxIe := false
  alertIe := false
  cmdIgnored := false
  writeIgnored := false
  tableBase := 0
  customDivisor := 48
  lineSelect := 0
  classIndex := 0
  classTable := defaultClasses
  seq := .stopped
  position := 15
  visit := none
  lines := Vector.replicate 16 Line.reset
  mem := none
  faultAddr := 0
  faultDesc := { count := 0, cause := none, access := .rxOrderFetch, line := 0 }
  events := []
  overflow := false
  lost := 0
  tick := false
  missed := 0
  threshold := 0
  ageLimit := 0
  beatClocks := 0
  sensePins := 0
  cadence := 0
  cadenceCount := 0
  resweep := 0
  resweepCount := 0
  livenessEn := false
  livenessPeriod := 0
  guardCount := 0
  guardRunning := false
  firstKey := false
  alertLiveness := false
  power := .active
  req := .active
  autoDoze := false
  idleBeats := 0
  wakeEn := 0
  wakeLoop := 0
  wakeStart := 0
  wakeSense := 0
  resetHeld := false
  settleClocks := 0
  txLost := false
  dozeBarred := false
  busData := []
  txnCount := 0
  pending := []

end Sys2Proof.Machine
end

