-- ==== Sys2Proof/Machine/Operands.lean ====
section
/-! DEFINITION. The fields of the words of the manual: order, length, setting and frame words (Tables 6 to 10), the
codes they are written back with (Table 12), the checks of a fetch (R8, R9, R12), character formats (R45, R47) and the
bytes a narrower access addresses (R170). -/

namespace Sys2Proof.Machine

/-! ### Order words (Table 6) -/

/-- OWN: the order is handed over to the concentrator. -/
def ownBit (w : Word) : Bool := w.getLsbD 31

/-- MODE, bits 30:28. -/
def modeBits (w : Word) : BitVec 3 := w.extractLsb' 28 3

/-- Bits 27:24: the two zero bits, QUIET and MARK_STOP. -/
def flagBits (w : Word) : BitVec 4 := w.extractLsb' 24 4

/-- QUIET among bits 27:24. -/
def quietFlag (flags : BitVec 4) : Bool := flags.getLsbD 1

/-- MARK_STOP among bits 27:24. -/
def markStopFlag (flags : BitVec 4) : Bool := flags.getLsbD 0

/-- TAG, bits 23:16. -/
def tagBits (w : Word) : Byte := w.extractLsb' 16 8

/-- DATUM, bits 15:8. -/
def datumBits (w : Word) : Byte := w.extractLsb' 8 8

/-- CODE, bits 7:3. -/
def codeBits (w : Word) : BitVec 5 := w.extractLsb' 3 5

/-- The receive mode of a MODE value, `none` where Table 7 marks it invalid. -/
def rxModeOf (m : BitVec 3) : Option RxMode :=
  match m.toNat with
  | 1 => some .single
  | 2 => some .block
  | 3 => some .blockEcho
  | 4 => some .frame
  | _ => none

/-- The transmit mode of a MODE value, `none` where Table 7 marks it invalid. -/
def txModeOf (m : BitVec 3) : Option TxMode :=
  match m.toNat with
  | 1 => some .single
  | 2 => some .block
  | 3 => some .setting
  | 4 => some .frame
  | 5 => some .brk
  | _ => none

/-- The MODE value of a receive mode (Table 7). -/
def rxModeBits : RxMode → BitVec 3
  | .single => 1
  | .block => 2
  | .blockEcho => 3
  | .frame => 4

/-- The MODE value of a transmit mode (Table 7). -/
def txModeBits : TxMode → BitVec 3
  | .single => 1
  | .block => 2
  | .setting => 3
  | .frame => 4
  | .brk => 5

/-- The order word a close writes (R16): OWN = HOST, the copied fields, DATUM, CODE, and bits 2:0 at 0. -/
def closedOrder (mode : BitVec 3) (flags : BitVec 4) (tag datum : Byte) (code : BitVec 5) : Word :=
  ((((((0#1 ++ mode) ++ flags) ++ tag) ++ datum) ++ code) ++ 0#3)

/-- The order word a close writes over a word just read: a rejection or a cancel at fetch (R15, R43). -/
def closedFetched (order : Word) (datum : Byte) (code : BitVec 5) : Word :=
  closedOrder (modeBits order) (flagBits order) (tagBits order) datum code

/-- The order word a close of an accepted receive order writes. -/
def rxClosed (o : RxOrder) (datum : Byte) (code : BitVec 5) : Word :=
  closedOrder (rxModeBits o.mode) o.flags o.tag datum code

/-- The order word a close of an accepted transmit order writes. -/
def txClosed (o : TxOrder) (datum : Byte) (code : BitVec 5) : Word :=
  closedOrder (txModeBits o.mode) o.flags o.tag datum code

/-- The length word a close writes (R7): COUNT in bits 31:16, LENGTH in bits 15:0. -/
def lengthWord (count length : BitVec 16) : Word := count ++ length

/-- LENGTH of a length word (Table 8). -/
def lengthBits (w : Word) : BitVec 16 := w.extractLsb' 0 16

/-! ### Completion codes (Table 12) -/

def codeDone : BitVec 5 := 0
def codeMarked : BitVec 5 := 1
def codeIdle : BitVec 5 := 2
def codeParity : BitVec 5 := 3
def codeFraming : BitVec 5 := 4
def codeBreak : BitVec 5 := 5
def codeOverrun : BitVec 5 := 6
def codeNotEchoed : BitVec 5 := 7
def codeUnderrun : BitVec 5 := 13
def codeHoldTimeout : BitVec 5 := 14
def codeCancelled : BitVec 5 := 15
def codeRejected : BitVec 5 := 16
def codeBusFault : BitVec 5 := 17

/-- The completion code of a frame status at an RX FRAME close without the OVERLONG mark (Table 30). -/
def statusCode : FrameStatus → BitVec 5
  | .good => 0
  | .badCrc => 8
  | .runt => 10
  | .abortSeen => 9
  | .badEscape => 11
  | .parity => 3
  | .framing => 4
  | .brk => 5
  | .overrun => 6

/-- OVERLONG (Table 12). -/
def codeOverlong : BitVec 5 := 12

/-! ### Setting and frame words (Tables 9 and 10) -/

/-- LOOP. -/
def setLoop (w : Word) : Bool := w.getLsbD 25

/-- WAKE_EN. -/
def setWakeEn (w : Word) : Bool := w.getLsbD 24

/-- HOLD_LIMIT. -/
def setHoldLimit (w : Word) : Nat := (w.extractLsb' 20 4).toNat

/-- IDLE_GAP. -/
def setIdleGap (w : Word) : Nat := (w.extractLsb' 16 4).toNat

/-- CTL. -/
def setCtl (w : Word) : Bool := w.getLsbD 15

/-- INBAND. -/
def setInband (w : Word) : Bool := w.getLsbD 14

/-- AUTO_PACE. -/
def setAutoPace (w : Word) : Bool := w.getLsbD 13

/-- AUTO_HOLD. -/
def setAutoHold (w : Word) : Bool := w.getLsbD 12

/-- CLASS_SET: set B where true. -/
def setClassB (w : Word) : Bool := w.getLsbD 11

/-- FRAMED. -/
def setFramed (w : Word) : Bool := w.getLsbD 10

/-- STOP2. -/
def setStop2 (w : Word) : Bool := w.getLsbD 9

/-- PARITY. -/
def setParity (w : Word) : Nat := (w.extractLsb' 6 3).toNat

/-- The number of data bits the LENGTH field selects, 5 to 8. -/
def setDataBits (w : Word) : Nat := 5 + (w.extractLsb' 4 2).toNat

/-- RATE. -/
def setRate (w : Word) : Nat := (w.extractLsb' 0 4).toNat

/-- The checks of R8, in its order: bits 31:26 zero, PARITY at most 4, and eight data bits where FRAMED is 1. -/
def settingValid (w : Word) : Bool :=
  w.extractLsb' 26 6 == 0#6 && setParity w ≤ 4 && (!setFramed w || setDataBits w == 8)

/-- MARK of a frame word. -/
def frameMark (w : Word) : Byte := w.extractLsb' 0 8

/-- ESCAPE of a frame word. -/
def frameEscape (w : Word) : Byte := w.extractLsb' 8 8

/-- Bits 31:16 of a frame word are zero. -/
def frameUpperZero (w : Word) : Bool := w.extractLsb' 16 16 == 0#16

/-! ### Rejection reasons (Table 11) -/

/-- The checks of R12 on a fetched RX order word: the reason of the first that fails. -/
def rxRejection (order : Word) (framed : Bool) : Option Byte :=
  match rxModeOf (modeBits order) with
  | none => some 1
  | some m =>
    if order.getLsbD 27 || order.getLsbD 26 then some 2
    else if framed != (m == .frame) then some 4
    else none

/-- The checks of R12 on a fetched TX order word: the reason of the first that fails. -/
def txRejection (order : Word) (framed : Bool) : Option Byte :=
  match txModeOf (modeBits order) with
  | none => some 1
  | some m =>
    if order.getLsbD 27 || order.getLsbD 26 then some 2
    else if m != .setting && m != .brk && framed != (m == .frame) then some 4
    else if m == .brk && datumBits order == 0 then some 8
    else none

/-- The checks of R9 on a fetched frame word: the reason of the first that fails. -/
def frameRejection (setting frame : Word) : Option Byte :=
  if !frameUpperZero frame then some 5
  else if setFramed setting && frameMark frame == frameEscape frame then some 7
  else none

/-! ### Character formats (R45, R47) -/

/-- The divisor of a RATE value (Table 19); RATE 15 takes CUSTOM_DIVISOR, with 0 acting as 1. -/
def rateDivisor (rate : Nat) (custom : BitVec 16) : Nat :=
  match rate with
  | 0 => 1536
  | 1 => 768
  | 2 => 384
  | 3 => 192
  | 4 => 96
  | 5 => 48
  | 6 => 24
  | 7 => 12
  | 8 => 8
  | 9 => 4
  | 10 => 2
  | 11 => 1
  | 12 => 256
  | 13 => 128
  | 14 => 64
  | _ => if custom = 0 then 1 else custom.toNat

/-- The reference periods of one bit (R45). -/
def bitClocks (f : Format) : Nat := f.divisor * Config.ticksPerBit

/-- The data bits of a format: eight on a framed line (R47). -/
def formatBits (f : Format) : Nat := if setFramed f.setting then 8 else setDataBits f.setting

/-- Whether a character of the format has a parity bit: never on a framed line (R47). -/
def formatParity (f : Format) : Bool := !setFramed f.setting && setParity f.setting != 0

/-- The value a byte has on the line: its bits above the data length cleared (R49, R55). -/
def lineValue (f : Format) (b : Byte) : Byte := b &&& (0xFF#8 >>> (8 - formatBits f))

/-- Whether an odd number of bits of a byte are logic 1. -/
def oddOnes (b : Byte) : Bool :=
  (b.getLsbD 0 ^^ b.getLsbD 1) ^^ (b.getLsbD 2 ^^ b.getLsbD 3) ^^
    ((b.getLsbD 4 ^^ b.getLsbD 5) ^^ (b.getLsbD 6 ^^ b.getLsbD 7))

/-- The parity bit the format requires for a value (R47): odd, even, mark or space. -/
def parityFor (f : Format) (value : Byte) : Bool :=
  match setParity f.setting with
  | 1 => !oddOnes value
  | 2 => oddOnes value
  | 3 => true
  | _ => false

/-- The number of bit periods of a character (R47). -/
def bitPeriods (f : Format) : Nat :=
  1 + formatBits f + (if formatParity f then 1 else 0) + (if setStop2 f.setting then 2 else 1)

/-- The reference periods of one character time (R45, R47). -/
def characterClocks (f : Format) : Nat := bitPeriods f * bitClocks f

/-- The levels of a character on the line, one a bit period, in order (R47): start bit, data bits least significant
first, parity bit where the format has one, stop bits. -/
def characterLevels (f : Format) (b : Byte) : List Bool :=
  [false] ++ (List.range (formatBits f)).map b.getLsbD ++
    (if formatParity f then [parityFor f (lineValue f b)] else []) ++
    (if setStop2 f.setting then [true, true] else [true])

/-- The reference periods from the start edge to a receiver's sample `k`: the start bit's centre first, then the centre
of each further bit (R48, R49). -/
def sampleClocks (f : Format) (k : Nat) : Nat := f.divisor * (8 + Config.ticksPerBit * k)

/-- The number of the sample that completes a character: the first stop bit's, after the start bit, the data bits and
the parity bit (R49). -/
def stopSample (f : Format) : Nat := 1 + formatBits f + (formatParity f).toNat

/-! ### Host accesses (R170)

DESIGN CHOICE (log entry 39): byte lane `i` of a register access is bits `8 * i + 7` to `8 * i`, and lane 0 is at the
lowest address. R1 gives this order for host memory, and the manual states none for the register window. -/

/-- The bytes of a word, lowest address first (R1). -/
def wordBytes (w : Word) : List Byte :=
  [w.extractLsb' 0 8, w.extractLsb' 8 8, w.extractLsb' 16 8, w.extractLsb' 24 8]

/-- The addressed bytes of a register's word: what a read with these lanes returns (R170). Bits 7:0 stand at the lowest
address of the word and come first, which is this model's choice (DESIGN CHOICE, log entry 39). -/
def addressedBytes (lanes : Lanes) (w : Word) : List Byte :=
  (if lanes.getLsbD 0 then [w.extractLsb' 0 8] else []) ++ (if lanes.getLsbD 1 then [w.extractLsb' 8 8] else []) ++
    (if lanes.getLsbD 2 then [w.extractLsb' 16 8] else []) ++ (if lanes.getLsbD 3 then [w.extractLsb' 24 8] else [])

/-- A Nat as a field of a word: `n` at bit `shift`. -/
def placed (n shift : Nat) : Word := BitVec.ofNat 32 n <<< shift

/-- A flag as bit `shift` of a word. -/
def flagAt (b : Bool) (shift : Nat) : Word := placed b.toNat shift

end Sys2Proof.Machine
end

