-- ==== Sys2Proof/Machine/Flags.lean ====
section
/-! DEFINITION. The conditions that hold no state of their own and follow their sources: hold state, drained, need of
service, the CTL pin, the idle condition, the console's activity, the interrupt conditions and the IRQ pin. -/

namespace Sys2Proof.Machine

/-- Line `n`. -/
def State.line (s : State) (n : LineNo) : Line := s.lines[n]

/-- FRAMED of the setting in force. -/
def Line.framed (l : Line) : Bool := setFramed l.setting

/-- Hold state (R104). -/
def Line.inHold (l : Line) : Bool := (setAutoHold l.setting && !l.sense) || l.inbandHold

/-- The transmitter is drained (R55): holding and shifter empty and no abort pair owed. -/
def Line.drained (l : Line) : Bool := l.holding.isNone && l.shifter == .empty && !l.abortPending

/-- The internal CTL value (R59): the pacing flag under AUTO_PACE, the CTL field otherwise. -/
def Line.ctlInternal (l : Line) : Bool := if setAutoPace l.setting then l.pacing else setCtl l.setting

/-- The shifter sends the expanded sequence of a LAST byte, which completes its frame (R121). -/
def Shifter.closesFrame : Shifter → Bool
  | .sending t => t.what == .frame true
  | .empty | .brk _ _ _ _ | .brkMark _ _ _ => false

/-- A frame is open on the line: its FIRST byte has entered the shifter and neither its LAST byte nor an abort pair has
followed (R121, R125). -/
def Line.frameOpen (l : Line) : Bool :=
  (l.txPhase == .opening || l.txPhase == .payload) && !l.shifter.closesFrame

/-- Holding holds a payload byte, one loaded by an order (R121). -/
def Line.payloadHeld (l : Line) : Bool :=
  match l.holding with
  | some h => h.source == .order
  | none => false

/-- The modes whose TX step loads bytes (Table 16). -/
def TxMode.loads : TxMode → Bool
  | .single | .block | .frame => true
  | .setting | .brk => false

/-- The conditions of an ACTIVE transmit order under which its line needs service (Table 16). -/
def Line.txWork (l : Line) (o : TxOrder) : Bool :=
  (o.mode.loads && l.holding.isNone) || (l.drainWait && l.drained) || l.breakDone || l.holdDue || l.underrunDue

/-- The line needs service (R33, Table 16). -/
def Line.needsService (l : Line) : Bool :=
  !l.faulted &&
    (l.attn || l.statusPending || l.rxCancel || l.txCancel ||
      (l.rxOrder.isSome && (!l.queue.isEmpty || l.idleDue)) ||
      (match l.txOrder with
        | some o => l.txWork o
        | none => false))

/-- The register window refuses ordinary writes: STANDBY and WAKING (R161, R163). -/
def State.windowShut (s : State) : Bool := s.power == .standby || s.power == .waking

/-- Beat boundaries occur and the line units run: every power state but STANDBY and WAKING (R2, Table 42). -/
def State.clockRuns (s : State) : Bool := !s.windowShut

/-- The sequencer is quiescing or quiescent (R41, R166). -/
def State.quiet (s : State) : Bool := s.seq == .quiescing || s.seq == .quiesced

/-- The console is active (R150). -/
def State.consoleActive (s : State) : Bool := s.seq == .stopped && !s.windowShut

/-- The console receive-ready condition (R154). -/
def State.conRxReady (s : State) : Bool := s.consoleActive && !(s.line 0).queue.isEmpty

/-- The console transmit-ready condition (R154). -/
def State.conTxReady (s : State) : Bool := s.consoleActive && (s.line 0).holding.isNone

/-- The CTL pin of line `n` (R59), logic 1 where asserted. -/
def State.ctlPin (s : State) (n : LineNo) : Bool :=
  s.seq != .quiesced && !setLoop (s.line n).setting && (s.line n).ctlInternal

/-- Some transmit direction is ACTIVE (R158). -/
def State.anyTxActive (s : State) : Bool := (List.finRange 16).any fun n => (s.line n).txOrder.isSome

/-- Every transmitter is drained (R160). -/
def State.allDrained (s : State) : Bool := (List.finRange 16).all fun n => (s.line n).drained

/-- The idle condition of automatic doze (R158). -/
def State.idleCondition (s : State) : Bool :=
  (List.finRange 16).all fun n => !(s.line n).needsService && (s.line n).drained && (s.line n).queue.isEmpty

/-- The Power Manager watches the idle condition, and it holds (R158). -/
def State.watchedIdle (s : State) : Bool :=
  s.autoDoze && s.power == .active && s.seq == .running && s.idleCondition

/-- DOZE may be entered (R158): from ACTIVE, between visits, with no transmit direction ACTIVE. -/
def State.mayDoze (s : State) : Bool := s.power == .active && s.visit.isNone && !s.anyTxActive

/-- The urgent kinds (Table 36). -/
def EventKind.urgent : EventKind → Bool
  | .lineFault | .loss | .liveness => true
  | .rxEnd | .txEnd | .status | .wake => false

/-- The record count a THRESHOLD code gives (R139). -/
def thresholdCount (code : BitVec 2) : Nat :=
  match code.toNat with
  | 0 => 1
  | 1 => 4
  | 2 => 8
  | _ => 16

/-- The event interrupt condition (R139). -/
def State.eventCondition (s : State) : Bool :=
  decide (thresholdCount s.threshold ≤ s.events.length) ||
    (match s.events with
      | [] => false
      | e :: _ => s.ageLimit != 0 && decide (s.ageLimit.toNat ≤ e.age)) ||
    s.events.any fun e => e.kind.urgent

/-- The IRQ pin (R140). -/
def State.irq (s : State) : Bool :=
  (s.eventIe && s.eventCondition) || (s.tickIe && s.tick) || (s.conRxIe && s.conRxReady) ||
    (s.conTxIe && s.conTxReady) || (s.alertIe && s.alertLiveness)

/-- The level of the character on the line (R47): that of the bit period its clock is in. In the clock period in which
one bit ends and the next begins it is the next one's, and mark at the very end (DESIGN CHOICE, log entry 40). -/
def Transmission.level (t : Transmission) : Bool :=
  ((characterLevels t.format t.char)[t.clocks / bitClocks t.format]?).getD true

/-- The level of the transmitter's output (R55, R56): the bit of the character on the line, space in a break, and mark
otherwise. -/
def Shifter.level : Shifter → Bool
  | .sending t => t.level
  | .brk _ _ _ _ => false
  | .empty | .brkMark _ _ _ => true

/-- What the shifter drives is on the internal loopback route (R60). -/
def Shifter.looped : Shifter → Bool
  | .sending t => t.loop
  | .brk _ _ _ loop => loop
  | .brkMark _ _ loop => loop
  | .empty => false

/-- The level of the TXD pin (R60): at mark unless the shifter drives the pin's route. -/
def Line.txdPin (l : Line) : Bool := l.shifter.looped || l.shifter.level

/-- The level of the receiver's internal input in loopback (R60): at mark unless the shifter drives the loopback
route. -/
def Line.loopLevel (l : Line) : Bool := !l.shifter.looped || l.shifter.level

end Sys2Proof.Machine
end

