-- ==== Sys2Proof/Machine/Ops.lean ====
section
/-! DEFINITION. The named operations the meanings share: one line's update, the receive queue, the event queue, the
refusal flags, the memory engine, the moves of the sequencer and of the power state, and the resets. -/

namespace Sys2Proof.Machine

/-! ### Lines -/

/-- Replace line `n`. -/
def State.setLine (s : State) (n : LineNo) (l : Line) : State := { s with lines := s.lines.set n l }

/-- Change line `n`. -/
def State.onLine (s : State) (n : LineNo) (f : Line → Line) : State := s.setLine n (f (s.line n))

/-- Change every line. -/
def State.onLines (s : State) (f : LineNo → Line → Line) : State :=
  { s with lines := Vector.ofFn fun n => f n (s.line n) }

/-! ### The receive queue (R52, R53, R108) -/

/-- The pacing flag re-evaluated against a queue count (R108). -/
def pacingAfter (flag : Bool) (count : Nat) : Bool := if 6 ≤ count then false else if count ≤ 2 then true else flag

/-- An entry joins at the tail (R52). -/
def Line.join (l : Line) (e : Entry) : Line :=
  { l with queue := l.queue ++ [e], pacing := pacingAfter l.pacing (l.queue.length + 1) }

/-- The entry ends a frame. -/
def Entry.isFrameEnd : Entry → Bool
  | .frameEnd _ => true
  | .data _ _ _ _ _ | .brk _ => false

/-- The head entry leaves (R52); a FRAME_END clears the remnant flag (R119). -/
def Line.pop (l : Line) : Line :=
  match l.queue with
  | [] => l
  | e :: rest =>
    { l with queue := rest, pacing := pacingAfter l.pacing rest.length, remnant := l.remnant && !e.isFrameEnd }

/-- An entry with OVERRUN_AFTER set (R53); a FRAME_END carries no such flag. -/
def Entry.lossAfter : Entry → Entry
  | .data v p f _ c => .data v p f true c
  | .brk _ => .brk true
  | .frameEnd st => .frameEnd st

/-- OVERRUN_AFTER set on the newest entry (R53). -/
def lossOnNewest : List Entry → List Entry
  | [] => []
  | [e] => [e.lossAfter]
  | e :: es => e :: lossOnNewest es

/-- A DATA or BREAK entry of an asynchronous line joins, or is lost to overrun (R53). -/
def Line.joinOrLose (l : Line) (e : Entry) : Line :=
  if l.queue.length < Config.queueCapacity then l.join e else { l with queue := lossOnNewest l.queue }

/-! ### The event queue (R128 to R133) -/

/-- An event is offered: it joins at the tail, or is discarded and counted (R128). -/
def State.offer (s : State) (e : EventRec) : State :=
  if s.events.length < Config.eventCapacity then { s with events := s.events ++ [e] }
  else { s with overflow := true, lost := min 65535 (s.lost + 1) }

/-- The end event of a close (R18), its fields those of the order word written. -/
def endEvent (dir : Dir) (n : LineNo) (order : Word) : EventRec where
  kind := match dir with
    | .rx => .rxEnd
    | .tx => .txEnd
  line := n
  a := (codeBits order).setWidth 7
  b := tagBits order
  c := datumBits order
  age := 0

/-- QUIET suppresses the end event of a DONE close and nothing else (R18). -/
def endEventDue (order : Word) : Bool := codeBits order != codeDone || !quietFlag (flagBits order)

/-- The STATUS event of a line that reports a level and a change count (R36, R132). -/
def statusEvent (n : LineNo) (l : Line) (level : Bool) (count : Nat) : EventRec where
  kind := .status
  line := n
  a := BitVec.ofNat 7 (level.toNat + 2 * (level != l.lastReported).toNat)
  b := BitVec.ofNat 8 count
  c := 0
  age := 0

/-- The value of an access kind (Table 40). -/
def accessBits : AccessKind → Nat
  | .rxOrderFetch => 0
  | .rxParameterFetch => 1
  | .rxBuffer => 2
  | .rxWriteback => 3
  | .txOrderFetch => 4
  | .txParameterFetch => 5
  | .txBuffer => 6
  | .txWriteback => 7

/-- The value of a fault cause (Table 39). -/
def causeBits : FaultCause → Nat
  | .busError => 1
  | .timeout => 2

/-- The LINE_FAULT event of a failed transaction (R133). -/
def lineFaultEvent (t : Txn) (cause : FaultCause) : EventRec where
  kind := .lineFault
  line := t.line
  a := BitVec.ofNat 7 (causeBits cause)
  b := BitVec.ofNat 8 (accessBits t.access)
  c := 0
  age := 0

/-- The LOSS marker (R129). -/
def lossEvent (lost : Nat) : EventRec where
  kind := .loss
  line := 0
  a := 0
  b := BitVec.ofNat 8 (lost / 256)
  c := BitVec.ofNat 8 lost
  age := 0

/-- The LIVENESS event (R133). -/
def livenessEvent : EventRec := { kind := .liveness, line := 0, a := 0, b := 0, c := 0, age := 0 }

/-- The WAKE event of a line (R133, R163). -/
def wakeEvent (n : LineNo) (start sense : Bool) : EventRec where
  kind := .wake
  line := n
  a := BitVec.ofNat 7 (start.toNat + 2 * sense.toNat)
  b := 0
  c := 0
  age := 0

/-! ### Refusals (R173) -/

/-- The write is ignored and WRITE_IGNORED is set. -/
def State.refuseWrite (s : State) : State := { s with writeIgnored := true }

/-- The command is refused by its own decoding and CMD_IGNORED is set. -/
def State.refuseCommand (s : State) : State := { s with cmdIgnored := true }

/-- The power-state gate of a write (R161, R163): in STANDBY and WAKING it is ignored and sets WRITE_IGNORED. -/
def State.gated (s : State) (f : State → State) : State := if s.windowShut then s.refuseWrite else f s

/-! ### Power state and sequencer state -/

/-- The doze ends (R159): ACTIVE with REQ = ACTIVE. -/
def State.endDoze (s : State) : State :=
  if s.power = .doze then { s with power := .active, req := .active, idleBeats := 0 } else s

/-- The standby entry is abandoned (R160). -/
def State.abandonStandby (s : State) : State := { s with power := .active, req := .active }

/-- DOZE is entered; where a SENSE level was accepted at the same instant the doze then ends at once (R159; log entry
31). -/
def State.enterDoze (s : State) : State :=
  if s.dozeBarred then { s with power := .active, req := .active, idleBeats := 0 }
  else { s with power := .doze, idleBeats := 0 }

/-- A requested doze is entered if its conditions hold (R158). -/
def State.enterRequestedDoze (s : State) : State := if s.req = .doze ∧ s.mayDoze then s.enterDoze else s

/-- The sequencer takes a state; any state but STOPPED and PAUSED abandons a standby entry (R160). -/
def State.moveSeq (s : State) (q : SeqState) : State :=
  if s.power = .standbyEntry ∧ q ≠ .stopped ∧ q ≠ .paused then { s.abandonStandby with seq := q }
  else { s with seq := q }

/-- The hold timer's three conditions (R62). -/
def Line.holdTimed (l : Line) : Bool := l.inHold && l.txOrder.isSome && l.holding.isSome

/-- The hold timer is cleared when one of its conditions has ended (R62). -/
def Line.tendHoldTimer (l : Line) : Line := if l.holdTimed then l else { l with holdCount := 0, holdStopped := false }

/-- What entry into QUIESCED does to one line (R167). -/
def Line.quiesce (l : Line) : Line :=
  Line.tendHoldTimer
    { l with
      holding := none
      ownByte := false
      abortPending := false
      txPhase := if l.shifter = .empty then .idle else l.txPhase }

/-- The sequencer enters QUIESCED (R167). -/
def State.enterQuiesced (s : State) : State := (s.moveSeq .quiesced).onLines fun _ l => l.quiesce

/-- The stable state that follows a transitional one when a visit ends (R29). -/
def State.settleSeq (s : State) : State :=
  match s.seq with
  | .pausing => s.moveSeq .paused
  | .stopping => s.moveSeq .stopped
  | .quiescing => s.enterQuiesced
  | .stopped | .running | .paused | .quiesced => s

/-- A transitional state is entered only while a visit is in progress, its stable state at once otherwise (R24). -/
def State.moveThrough (s : State) (transitional stable : SeqState) : State :=
  if s.visit.isSome then s.moveSeq transitional else s.moveSeq stable

/-! ### The memory engine (R142 to R144) -/

/-- The address of a word of line `n`'s block (R3, Table 5). -/
def State.blockWord (s : State) (n : LineNo) (offset : Nat) : Word :=
  s.tableBase + BitVec.ofNat 32 (64 * n.val + offset)

/-- The offset of a direction's order word. -/
def orderOffset : Dir → Nat
  | .rx => 0x00
  | .tx => 0x10

/-- The offset of a direction's ADDRESS word. -/
def addressOffset : Dir → Nat
  | .rx => 0x04
  | .tx => 0x14

/-- The offset of a direction's length word. -/
def lengthOffset : Dir → Nat
  | .rx => 0x08
  | .tx => 0x18

/-- The offset of SETTING WORD. -/
def settingOffset : Nat := 0x1C

/-- The offset of FRAME WORD. -/
def frameOffset : Nat := 0x0C

/-- The access kind of an order fetch. -/
def orderAccess : Dir → AccessKind
  | .rx => .rxOrderFetch
  | .tx => .txOrderFetch

/-- The access kind of a parameter fetch. -/
def parameterAccess : Dir → AccessKind
  | .rx => .rxParameterFetch
  | .tx => .txParameterFetch

/-- The access kind of a writeback. -/
def writebackAccess : Dir → AccessKind
  | .rx => .rxWriteback
  | .tx => .txWriteback

/-- The visit `v` issues a transaction and waits at `point` for its answer (R142). Beat boundaries are
counted from the first after its issue (R2, R143). -/
def State.issue (s : State) (v : Visit) (point : VisitPoint) (request : MemRequest) (addr : Word)
    (access : AccessKind) : State :=
  { s with
    visit := some { v with point := point }
    mem := some { tag := s.txnCount, request := request, addr := addr, access := access, line := v.line, beats := 0 }
    txnCount := s.txnCount + 1 }

/-- A fault is recorded (R144). -/
def State.recordFault (s : State) (t : Txn) (cause : FaultCause) : State :=
  { s with
    faultAddr := t.addr
    faultDesc :=
      { count := min 255 (s.faultDesc.count + 1), cause := some cause, access := t.access, line := t.line } }

/-- The visit and the transaction that an answer numbered `tag` belongs to, if it is awaited (R143). -/
def State.awaited (s : State) (tag : Nat) : Option (Visit × Txn) :=
  match s.visit, s.mem with
  | some v, some t => if t.tag = tag then some (v, t) else none
  | _, _ => none

/-! ### Resets (Table 43) -/

/-- RESET_LINE takes effect on line `n` (R44, R169). -/
def State.applyLineReset (s : State) (n : LineNo) : State := s.setLine n Line.reset

/-- A pin reset (R168). Waiting commands, the levels at the SENSE pins, the count of transactions issued and the last
read's bytes are no state of the part's blocks. -/
def State.pinReset (s : State) : State :=
  { State.reset with
    pending := s.pending
    sensePins := s.sensePins
    txnCount := s.txnCount
    busData := s.busData }

/-- A HOST_RESET (R168): it keeps TABLE_BASE, CUSTOM_DIVISOR and the Class Table. -/
def State.hostReset (s : State) : State :=
  { s.pinReset with
    tableBase := s.tableBase
    customDivisor := s.customDivisor
    classTable := s.classTable }

end Sys2Proof.Machine
end

