-- ==== Sys2Proof/Machine/Framing.lean ====
section
/-! DEFINITION. Framed mode (Chapter 7): the CRC, stuffing, and the framed receive machine with its tail pair and its
queue resources. -/

namespace Sys2Proof.Machine

/-! ### CRC and stuffing (R110, R111) -/

/-- One shift of the CRC register (R110). -/
def crcShift (r : BitVec 16) : BitVec 16 := if r.getLsbD 15 then (r <<< 1) ^^^ 0x1021 else r <<< 1

/-- The CRC register combined with one byte (R110). -/
def crcByte (r : BitVec 16) (b : Byte) : BitVec 16 :=
  crcShift (crcShift (crcShift (crcShift (crcShift (crcShift (crcShift (crcShift (r ^^^ (b ++ 0#8)))))))))

/-- The CRC of a payload (R110). -/
def crcOf (payload : List Byte) : BitVec 16 := payload.foldl crcByte 0xFFFF

/-- The CRC high byte. -/
def crcHigh (r : BitVec 16) : Byte := r.extractLsb' 8 8

/-- The CRC low byte. -/
def crcLow (r : BitVec 16) : Byte := r.extractLsb' 0 8

/-- The stuffed form of a byte under a MARK and an ESCAPE (R111). -/
def stuffed (mark esc v : Byte) : List Byte := if v = mark ∨ v = esc then [esc, ~~~v] else [v]

/-- The characters of a whole frame (R111). -/
def frameCharacters (mark esc : Byte) (payload : List Byte) : List Byte :=
  [mark] ++ (payload.map (stuffed mark esc)).flatten ++ stuffed mark esc (crcHigh (crcOf payload)) ++
    stuffed mark esc (crcLow (crcOf payload)) ++ [mark]

/-! ### The framed receive machine (R112 to R116) -/

/-- A completion as it reaches a path (R49, R50): a character with its error flags, or a break. -/
inductive Completed where
  | char (value : Byte) (parity framing : Bool)
  | brk
  deriving DecidableEq, Repr

/-- Begin a new frame (R112). -/
def Line.beginFrame (l : Line) : Line :=
  { l with frameRx := .collect, tail := [], frameBytes := 0, rxCrc := 0xFFFF }

/-- A FRAME_END joins, or is dropped and counted (R116). -/
def Line.joinFrameEnd (l : Line) (st : FrameStatus) : Line :=
  if l.queue.length < Config.queueCapacity then l.join (.frameEnd st)
  else { l with framesDropped := min 255 (l.framesDropped + 1) }

/-- The frame ends with a status, and its MARK begins the next (R112). -/
def Line.endFrame (l : Line) (st : FrameStatus) : Line := (l.joinFrameEnd st).beginFrame

/-- The frame is condemned (R113). -/
def Line.poison (l : Line) (st : FrameStatus) : Line := { l with frameRx := .discard st, tail := [] }

/-- An unstuffed byte joins the current frame (R114, R115). -/
def Line.addFrameByte (l : Line) (b : Byte) : Line :=
  match l.tail with
  | older :: newer :: _ =>
    if l.queue.length ≤ Config.framedDataLimit then
      { l.join (.data older false false false 0) with
        frameRx := .collect
        rxCrc := crcByte l.rxCrc older
        tail := [newer, b]
        frameBytes := min 3 (l.frameBytes + 1) }
    else l.poison .overrun
  | [older] => { l with frameRx := .collect, tail := [older, b], frameBytes := min 3 (l.frameBytes + 1) }
  | [] => { l with frameRx := .collect, tail := [b], frameBytes := min 3 (l.frameBytes + 1) }

/-- The check at the MARK that ends a frame of three bytes or more (R114). -/
def Line.checkFrame (l : Line) : FrameStatus :=
  match l.tail with
  | [older, newer] => if l.rxCrc = older ++ newer then .good else .badCrc
  | _ => .badCrc

/-- A MARK without error (Table 29). -/
def Line.frameMarkSeen (l : Line) : Line :=
  match l.frameRx with
  | .hunt => l.beginFrame
  | .collect =>
    if l.frameBytes = 0 then l
    else if l.frameBytes ≤ 2 then l.endFrame .runt
    else l.endFrame l.checkFrame
  | .escaped => l.endFrame .abortSeen
  | .discard st => l.endFrame st

/-- An ESCAPE without error (Table 29). -/
def Line.frameEscapeSeen (l : Line) : Line :=
  match l.frameRx with
  | .collect => { l with frameRx := .escaped }
  | .escaped => l.poison .badEscape
  | .hunt | .discard _ => l

/-- Any other character without error (Table 29). -/
def Line.frameByteSeen (l : Line) (v : Byte) : Line :=
  match l.frameRx with
  | .collect => l.addFrameByte v
  | .escaped => l.addFrameByte (~~~v)
  | .hunt | .discard _ => l

/-- An error character or a break (Table 29): it poisons an open frame. -/
def Line.frameErrorSeen (l : Line) (st : FrameStatus) : Line :=
  match l.frameRx with
  | .collect | .escaped => l.poison st
  | .hunt | .discard _ => l

/-- The framed receive machine takes a completion (R112). -/
def Line.receiveFramed (l : Line) (c : Completed) : Line :=
  match c with
  | .brk => l.frameErrorSeen .brk
  | .char v parity framing =>
    if framing then l.frameErrorSeen .framing
    else if parity then l.frameErrorSeen .parity
    else if v = l.markChar then l.frameMarkSeen
    else if v = l.escapeChar then l.frameEscapeSeen
    else l.frameByteSeen v

end Sys2Proof.Machine
end

