-- ==== Sys2Proof/Machine/LineUnit.lean ====
section
/-! DEFINITION. The line unit (Chapters 3, 6 and 7): the transmitter from holding to shifter, the receiver and its
asynchronous path, SENSE, the timers, and the taking up of a new setting. -/

namespace Sys2Proof.Machine

/-- The format in force on a line: its setting and its divisor (R45, R46). -/
def State.formatOf (s : State) (l : Line) : Format where
  setting := l.setting
  divisor := rateDivisor (setRate l.setting) s.customDivisor

/-! ### The transmitter (R54, R55, R121 to R123) -/

/-- The characters of a piece under the frame characters and the CRC now in force (R111, R121). -/
def Line.pieceChars (l : Line) : Piece → List Byte
  | .opening | .closing => [l.markChar]
  | .payload b => stuffed l.markChar l.escapeChar b
  | .crcHigh => stuffed l.markChar l.escapeChar (crcHigh l.txCrc)
  | .crcLow => stuffed l.markChar l.escapeChar (crcLow l.txCrc)
  | .plain b => [b]

/-- The transmit CRC register once a piece has started (R121). -/
def pieceCrc (r : BitVec 16) : Piece → BitVec 16
  | .opening => 0xFFFF
  | .payload b => crcByte r b
  | .crcHigh | .crcLow | .closing | .plain _ => r

/-- The transmit framing phase once a piece has started (Table 31). -/
def piecePhase (phase : TxPhase) : Piece → TxPhase
  | .opening => .opening
  | .payload _ => .payload
  | .crcHigh => .crcHi
  | .crcLow => .crcLo
  | .closing => .close
  | .plain _ => phase

/-- The shifter starts the first of some pieces, on the route the setting now gives (R60, R63, R121). It starts in this
very clock period, which is thereby a sample tick of the line: the manual gives the ticks no phase (R45; DESIGN CHOICE,
log entry 37). -/
def Line.sendPieces (l : Line) (what : Sending) (f : Format) : List Piece → Line
  | [] => l
  | p :: rest =>
    { l with
      txPhase := piecePhase l.txPhase p
      txCrc := pieceCrc l.txCrc p
      shifter := .sending
        { what := what
          char := (l.pieceChars p).headD 0
          rest := (l.pieceChars p).tail.map Piece.plain ++ rest
          clocks := 0
          format := f
          loop := setLoop l.setting } }

/-- The pieces of a payload byte's expanded sequence (R121). -/
def Holding.pieces (h : Holding) : List Piece :=
  (if h.first then [.opening] else []) ++ [.payload h.byte] ++ (if h.last then [.crcHigh, .crcLow, .closing] else [])

/-- The holding byte enters the shifter as one raw character (R55). -/
def Line.sendCharacter (l : Line) (f : Format) (h : Holding) : Line :=
  { l with holding := none, ownByte := false }.sendPieces .character f [.plain h.byte]

/-- A payload byte enters the shifter on a framed line (R121). -/
def Line.sendPayload (l : Line) (f : Format) (h : Holding) : Line :=
  { l with holding := none, ownByte := false }.sendPieces (.frame h.last) f h.pieces

/-- The abort pair is sent (R122). -/
def Line.sendAbort (l : Line) (f : Format) : Line :=
  { l with abortPending := false, txPhase := .abort }.sendPieces .abortPair f [.plain l.escapeChar, .plain l.markChar]

/-- An underrun is detected, given that the shifter is free and the line is not in hold state (R123). -/
def Line.underruns (l : Line) (quiesced : Bool) : Bool := l.txPhase == .payload && !l.payloadHeld && !quiesced

/-- What the transmitter does while its shifter is free (R55, R105, R122, R123). -/
def Line.feedShifter (s : State) (l : Line) : Line :=
  if l.shifter ≠ .empty ∨ l.inHold then l
  else if l.abortPending then l.sendAbort (s.formatOf l)
  else if l.underruns (s.seq == .quiesced) then { l.sendAbort (s.formatOf l) with underrunDue := true }
  else
    match l.holding with
    | none => l
    | some h =>
      if l.framed && h.source == .order then l.sendPayload (s.formatOf l) h else l.sendCharacter (s.formatOf l) h

/-- After any change of a line: the transmitter acts if it can, and the hold timer follows its conditions. -/
def Line.tend (s : State) (l : Line) : Line := (l.feedShifter s).tendHoldTimer

/-- The phase once the shifter ends what it sent (R121, R122, R125). -/
def Line.phaseAfter (l : Line) (what : Sending) (quiesced : Bool) : TxPhase :=
  if quiesced then .idle
  else
    match what with
    | .character => l.txPhase
    | .frame true => .idle
    | .frame false => .payload
    | .abortPair => .idle

/-- The shifter ends what it was sending (R55, R56, R122): all that was left of it has gone out. A break in progress has
not ended. -/
def Line.shifterEnds (s : State) (l : Line) : Line :=
  match l.shifter with
  | .sending t =>
    Line.tend s
      { l with
        shifter := .empty
        txCrc := t.rest.foldl pieceCrc l.txCrc
        txPhase := l.phaseAfter t.what (s.seq == .quiesced) }
  | .brkMark _ _ _ => Line.tend s { l with shifter := .empty }
  | .empty | .brk _ _ _ _ => l

/-- The format of the next character of what is being sent, given the one in force: an expanded sequence keeps its own
to its end (R121), and with it its divisor (DESIGN CHOICE, log entry 34); any other character takes the format and rate
in force as it starts (R46, R63). -/
def Transmission.nextFormat (t : Transmission) (f : Format) : Format :=
  match t.what with
  | .frame _ => t.format
  | .character | .abortPair => f

/-- The reference periods of a break (R56): that many character times of the format in which it started. -/
def breakClocks (times : Byte) (f : Format) : Nat := times.toNat * characterClocks f

/-- One reference clock period of the shifter in a line whose format in force is `f`: where the character on the line
has lasted its time, the next character of the sequence starts (R121, R122); the last one waits for SHIFTER_EMPTY, and
a break for BREAK_DONE (log entries 3 and 8). Which format and rate the next one takes is `nextFormat`'s (log entry
34). -/
def Line.clockShifter (l : Line) (f : Format) : Line :=
  match l.shifter with
  | .sending t =>
    if t.clocks + 1 < characterClocks t.format ∨ t.rest = [] then
      { l with shifter := .sending { t with clocks := min (characterClocks t.format) (t.clocks + 1) } }
    else l.sendPieces t.what (t.nextFormat f) t.rest
  | .brk times g clocks loop => { l with shifter := .brk times g (min (breakClocks times g) (clocks + 1)) loop }
  | .brkMark g clocks loop => { l with shifter := .brkMark g (min (bitClocks g) (clocks + 1)) loop }
  | .empty => l

/-- What the shifter drives has lasted its time: the last character of what is being sent, a break, or the bit period of
mark after a break (R55, R56). -/
def Line.sentOut (l : Line) : Bool :=
  match l.shifter with
  | .sending t => t.rest.isEmpty && decide (characterClocks t.format ≤ t.clocks)
  | .brk times f clocks _ => decide (breakClocks times f ≤ clocks)
  | .brkMark f clocks _ => decide (bitClocks f ≤ clocks)
  | .empty => false

/-- A generated break ends (R56): the output returns to mark for one bit period, and BREAK_DONE is set if the transmit
direction is still ACTIVE. The bit period is one of the break's own format and rate, whatever has come into force during
the break (DESIGN CHOICE, log entry 41). -/
def Line.breakEnds (l : Line) : Line :=
  match l.shifter with
  | .brk _ f _ loop => { l with shifter := .brkMark f 0 loop, breakDone := l.breakDone || l.txOrder.isSome }
  | .empty | .sending _ | .brkMark _ _ _ => l

/-- What the shifter drives, or has still to drive, is on the loopback route (R60, R63). -/
def Line.sendsLooped (l : Line) : Bool :=
  l.shifter.looped ||
    match l.shifter with
    | .sending t => !t.rest.isEmpty && setLoop l.setting
    | .empty | .brk _ _ _ _ | .brkMark _ _ _ => false

/-- The end of what the shifter drives may be told now: at any time on the pin's route, and on the loopback route, where
the receiver hears every clock period of it, once it has lasted its time (DESIGN CHOICE, log entry 40). -/
def Line.endTold (l : Line) : Bool := !l.sendsLooped || l.sentOut

/-- SHIFTER_EMPTY as its row tells it. -/
def Line.tellEmpty (s : State) (l : Line) : Line := if l.endTold then l.shifterEnds s else l

/-- BREAK_DONE as its row tells it. -/
def Line.tellBreakDone (l : Line) : Line := if l.endTold then l.breakEnds else l

/-- The end that no row has told of what has lasted its time. -/
def Line.endShifter (s : State) (l : Line) : Line :=
  if l.sentOut then
    match l.shifter with
    | .brk _ _ _ _ => l.breakEnds
    | .empty | .sending _ | .brkMark _ _ _ => l.shifterEnds s
  else l

/-! ### The receiver (R48 to R51) -/

/-- The receiver enters START: the character takes the format and input source in force (R48, R63). -/
def Line.startCharacter (l : Line) (f : Format) (loop : Bool) : Line :=
  { l with receiver := { l.receiver with phase := .start, format := f, loop := loop, clocks := 0, samples := [] } }

/-- The receiver enters SEARCH. An input already at logic 0 starts no character until it has returned to logic 1 and
fallen again (R48), so the level it is at counts as the preceding sample. -/
def Line.enterSearch (l : Line) : Line :=
  { l with receiver := { l.receiver with phase := .search, clocks := 0, before := l.loopLevel, samples := [] } }

/-- The receiver listens to the internal input (R60, R63): in SEARCH the setting in force says so, and from the falling
edge to the next search what was in force then. -/
def Line.listens (l : Line) : Bool := if l.receiver.phase = .search then setLoop l.setting else l.receiver.loop

/-- The internal input falls: it is at logic 0 and its preceding sample was at logic 1 (R48, R60). A fall is seen in the
clock period in which it comes (DESIGN CHOICE, log entry 37). -/
def Line.loopFalls (l : Line) : Bool := l.receiver.before && !l.loopLevel

/-- A falling edge in SEARCH (R48): of the pin where its row says so, and in loopback of the transmitter's output, where
that falls at this very instant (R60). -/
def Line.fallingEdge (s : State) (l : Line) : Line :=
  if l.receiver.phase = .search ∧ (setLoop l.setting = false ∨ l.loopFalls = true) then
    l.startCharacter (s.formatOf l) (setLoop l.setting)
  else l

/-- The instant of the receiver's next sample has come in loopback: sample 0 is the start bit's (R48, R49). -/
def Receiver.sampleDue (r : Receiver) : Bool := decide (sampleClocks r.format r.samples.length ≤ r.clocks)

/-- The level the receiver samples: the row's at the pin, the transmitter's output in loopback, where RXD is ignored
(R60). -/
def Line.sampledLevel (l : Line) (level : Bool) : Bool := if l.receiver.loop then l.loopLevel else level

/-- The sample at the centre of the start bit (R48): when its row says so at the pin, eight sample ticks after the edge
in loopback. -/
def Line.startSample (l : Line) (level : Bool) : Line :=
  if l.receiver.phase = .start ∧ (l.receiver.loop = false ∨ l.receiver.sampleDue = true) then
    if l.sampledLevel level then l.enterSearch
    else { l with receiver := { l.receiver with phase := .assemble, samples := [false] } }
  else l

/-- A data or parity bit is sampled in loopback (R49, R60). -/
def Line.takeSample (l : Line) : Line :=
  { l with receiver := { l.receiver with samples := l.receiver.samples ++ [l.loopLevel] } }

/-- Every bit before the first stop bit has been sampled. -/
def Receiver.bitsSampled (r : Receiver) : Bool := decide (stopSample r.format ≤ r.samples.length)

/-- The receiver completes now (R49): in ASSEMBLE, when its row says so at the pin and at the first stop bit's centre in
loopback. -/
def Line.completes (l : Line) : Bool :=
  l.receiver.phase == .assemble && (!l.receiver.loop || (l.receiver.bitsSampled && l.receiver.sampleDue))

/-- Sample `k` of the bits sampled so far. -/
def Receiver.bit (r : Receiver) (k : Nat) : Bool := (r.samples[k]?).getD false

/-- What a completing receiver has sampled: data bits, parity bit and first stop bit. At the pin they are the row's; in
loopback RXD is ignored and they are what the transmitter's output was at each of its samples (R60). -/
def Line.sampled (l : Line) (data : Byte) (parityBit stopBit : Bool) : Byte × Bool × Bool :=
  if l.receiver.loop then
    (BitVec.ofFnLE fun i : Fin 8 => l.receiver.bit (1 + i.val), l.receiver.bit (1 + formatBits l.receiver.format),
      l.loopLevel)
  else (data, parityBit, stopBit)

/-- The completion that sampled levels make in a format (R49, R50). -/
def completed (f : Format) (data : Byte) (parityBit stopBit : Bool) : Completed :=
  if lineValue f data = 0 ∧ (formatParity f && parityBit) = false ∧ stopBit = false then .brk
  else .char (lineValue f data) (formatParity f && (parityBit != parityFor f (lineValue f data))) (!stopBit)

/-- The entry of a Class Table (R98). -/
def classEntry (t : Vector Byte 256) (v : Byte) : Byte := t[v.toNat]'v.isLt

/-- The four class bits of a value in a class set (R98). -/
def classLookup (t : Vector Byte 256) (setB : Bool) (v : Byte) : BitVec 4 :=
  if setB then (classEntry t v).extractLsb' 4 4 else (classEntry t v).extractLsb' 0 4

/-- MARK among class bits (Table 27). -/
def classMark (c : BitVec 4) : Bool := c.getLsbD 0

/-- HOLD among class bits. -/
def classHold (c : BitVec 4) : Bool := c.getLsbD 1

/-- RELEASE among class bits. -/
def classRelease (c : BitVec 4) : Bool := c.getLsbD 2

/-- DROP among class bits. -/
def classDrop (c : BitVec 4) : Bool := c.getLsbD 3

/-- An asynchronous line takes a completion (R51, R102). A character with an error has no class bits. -/
def Line.receiveAsync (s : State) (l : Line) (c : Completed) : Line :=
  match c with
  | .brk => l.joinOrLose (.brk false)
  | .char v parity framing =>
    let classes := if parity || framing then 0 else classLookup s.classTable (setClassB l.setting) v
    if classDrop classes then l
    else if setInband l.setting && classRelease classes then { l with inbandHold := false }
    else if setInband l.setting && classHold classes then { l with inbandHold := true }
    else l.joinOrLose (.data v parity framing false classes)

/-- Every completion restarts the idle-gap timer from zero and clears IDLE_DUE (R61). -/
def Line.restartIdle (l : Line) : Line :=
  { l with idleStarted := true, idleBits := 0, idleClocks := 0, idleDue := false }

/-- A completion is handled on the path the setting in force selects (R51). -/
def Line.deliver (s : State) (l : Line) (c : Completed) : Line :=
  Line.tend s (if l.framed then l.restartIdle.receiveFramed c else l.restartIdle.receiveAsync s c)

/-- The receiver's phase after a completion (R49, R50). -/
def phaseAfterCompletion : Completed → RxPhase
  | .char _ _ _ => .search
  | .brk => .recover

/-- The receiver after a completion: in SEARCH, or after a break in RECOVER (R49, R50). -/
def Line.afterCompletion (l : Line) (c : Completed) : Line :=
  { l.enterSearch with receiver := { l.enterSearch.receiver with phase := phaseAfterCompletion c } }

/-- The receiver completes a character or a break (R49, R50). -/
def Line.complete (s : State) (l : Line) (c : Completed) : Line := Line.deliver s (l.afterCompletion c) c

/-- The completion a line makes of the levels its receiver sampled. -/
def Line.completedOf (l : Line) (data : Byte) (parityBit stopBit : Bool) : Completed :=
  let x := l.sampled data parityBit stopBit
  completed l.receiver.format x.1 x.2.1 x.2.2

/-- The format whose sample ticks the receiver counts in RECOVER: its last character's, since a new one is taken up with
the next search (R63); wake recovery measures a character time of the line's format (R47, R163; DEDUCED, log entry
9). -/
def Line.recoverFormat (s : State) (l : Line) : Format :=
  if l.receiver.phase = .wakeRecover then s.formatOf l else l.receiver.format

/-- The reference periods of unbroken mark the receiver waits for: one bit period in RECOVER (R50), one character time in
wake recovery (R163). -/
def Line.recoverClocks (s : State) (l : Line) : Nat :=
  if l.receiver.phase = .wakeRecover then characterClocks (l.recoverFormat s) else bitClocks (l.recoverFormat s)

/-- The receiver waits for mark: RECOVER and wake recovery, a form of it (R163). -/
def RxPhase.recovers : RxPhase → Bool
  | .recover | .wakeRecover => true
  | .search | .start | .assemble => false

/-- The mark the receiver waits for has lasted (R50, R163): in loopback that of the transmitter's output (R60). -/
def Line.markSeen (s : State) (l : Line) : Bool := l.loopLevel && decide (l.recoverClocks s ≤ l.receiver.clocks)

/-- The mark the receiver waits for has been seen (R50, R163): when its row says so at the pin, and in loopback when it
has. -/
def Line.recoverEnds (s : State) (l : Line) : Line :=
  if l.receiver.phase.recovers = true ∧ (l.receiver.loop = false ∨ l.markSeen s = true) then l.enterSearch else l

/-- A sample at logic 0 in RECOVER restarts the count of mark (R50). Its ticks count from the completion that began it,
or from the end of WAKING (log entry 37). -/
def Line.restartMark (s : State) (l : Line) : Line :=
  if !l.loopLevel && l.receiver.clocks % (l.recoverFormat s).divisor == 0 then
    { l with receiver := { l.receiver with clocks := 0 } }
  else l

/-- An instant that a row would tell has come for a receiver that listens to the internal input (R48 to R50, R60): its
falling edge, its start-bit sample, its completion, or the end of the mark it waits for. -/
def Line.instantDue (s : State) (l : Line) : Bool :=
  l.listens &&
    match l.receiver.phase with
    | .search => l.loopFalls
    | .start => l.receiver.sampleDue
    | .assemble => l.completes
    | .recover | .wakeRecover => l.markSeen s

/-- A fall of the internal input at this instant is the falling edge of a search in loopback (R48, R60). -/
def Line.hearFall (s : State) (l : Line) : Line := if setLoop l.setting && l.loopFalls then l.fallingEdge s else l

/-- The instant that has come is carried out as its row would tell it. A completion may end hold state (R103), and the
character that then starts at once falls at this very instant. -/
def Line.hearInstant (s : State) (l : Line) : Line :=
  match l.receiver.phase with
  | .search => l.hearFall s
  | .start => l.startSample false
  | .assemble => (Line.complete s l (l.completedOf 0 false false)).hearFall s
  | .recover | .wakeRecover => l.recoverEnds s

/-- Between those instants a looped receiver samples the bits of its character (R49) and the mark it waits for (R50). -/
def Line.hearBits (s : State) (l : Line) : Line :=
  if l.listens then
    match l.receiver.phase with
    | .search | .start => l
    | .assemble => if l.receiver.sampleDue then l.takeSample else l
    | .recover | .wakeRecover => l.restartMark s
  else l

/-- What this instant brings to a receiver that listens to the internal input (DEDUCED, log entry 7). -/
def Line.hear (s : State) (l : Line) : Line := if l.instantDue s then l.hearInstant s else l.hearBits s

/-- One reference clock period of the receiver: the level of the internal input in it is the preceding sample of a
search, and any other phase counts it where the receiver listens to that input (log entry 6). -/
def Line.clockReceiver (l : Line) : Line :=
  if l.receiver.phase = .search then { l with receiver := { l.receiver with before := l.loopLevel } }
  else if l.receiver.loop then { l with receiver := { l.receiver with clocks := l.receiver.clocks + 1 } }
  else l

/-! ### SENSE (R57, R58) -/

/-- The level of the SENSE source (R57, R60). -/
def Line.senseSource (l : Line) (pin : Bool) : Bool := if setLoop l.setting then l.ctlInternal else pin

/-- This sample is accepted as a change (R57). -/
def Line.acceptsSense (l : Line) (pin : Bool) : Bool :=
  match l.sensePrev with
  | .sample p => l.senseSource pin == p && l.senseSource pin != l.sense
  | .afterReset | .discarded => false

/-- The SENSE sample of a beat boundary (R57, R58). -/
def Line.sampleSense (l : Line) (pin : Bool) : Line :=
  match l.sensePrev with
  | .afterReset =>
    { l with
      sensePrev := .sample (l.senseSource pin)
      sense := l.senseSource pin
      lastReported := l.senseSource pin }
  | .discarded => { l with sensePrev := .sample (l.senseSource pin) }
  | .sample _ =>
    if l.acceptsSense pin then
      { l with
        sensePrev := .sample (l.senseSource pin)
        sense := l.senseSource pin
        changeCount := min 255 (l.changeCount + 1)
        countBefore := some l.changeCount
        statusPending := true }
    else { l with sensePrev := .sample (l.senseSource pin) }

/-- The level last accepted before the current beat boundary's instant (R36): an accepted level differs from the one
before it. -/
def Line.senseBefore (l : Line) : Bool := l.countBefore.isSome != l.sense

/-- The changes accepted before the current beat boundary's instant (R36). -/
def Line.changesBefore (l : Line) : Nat := l.countBefore.getD l.changeCount

/-- STATUS_PENDING as it stood before the current beat boundary's instant (R36, R57). -/
def Line.pendingBefore (l : Line) : Bool :=
  match l.countBefore with
  | some c => decide (0 < c)
  | none => l.statusPending

/-- The instant of the beat boundary is over: the level accepted at it counts as any other. -/
def Line.closeCount (l : Line) : Line := { l with countBefore := none }

/-- The source of SENSE changes: the previous sample is discarded and the accepted level kept (R58). -/
def SensePrev.discard : SensePrev → SensePrev
  | .afterReset => .afterReset
  | .discarded | .sample _ => .discarded

/-! ### Timers (R61, R62) -/

/-- The hold limit in beats; 0 is no limit (Table 9). -/
def Line.holdLimit (l : Line) : Nat := setHoldLimit l.setting * Config.beatsPerHoldUnit

/-- The hold timer counts this beat boundary (R62). -/
def Line.holdCounts (l : Line) : Bool := l.holdTimed && l.holdLimit != 0 && !l.holdStopped

/-- The hold timer at a beat boundary (R62): at its limit it stops and HOLD_DUE falls due. -/
def Line.countHold (l : Line) : Line :=
  if l.holdCounts then
    if l.holdLimit ≤ l.holdCount + 1 then
      { l with holdCount := l.holdCount + 1, holdStopped := true, holdReached := true }
    else { l with holdCount := l.holdCount + 1 }
  else l

/-- The hold timer that has reached its limit sets HOLD_DUE (R62). -/
def Line.setHoldDue (l : Line) : Line := if l.holdReached then { l with holdReached := false, holdDue := true } else l

/-- A new HOLD_LIMIT acts on the count already reached (R62). -/
def Line.checkHoldLimit (l : Line) : Line :=
  if l.holdLimit != 0 && !l.holdStopped && decide (l.holdLimit ≤ l.holdCount) then
    { l with holdStopped := true, holdDue := true }
  else l

/-- The idle-gap timer runs: it has been started, and IDLE_GAP is nonzero (R61). -/
def Line.idleRuns (l : Line) : Bool := l.idleStarted && setIdleGap l.setting != 0

/-- The idle-gap limit in bit periods of a format: IDLE_GAP character times (R61). -/
def Line.idleLimit (l : Line) (f : Format) : Nat := setIdleGap l.setting * bitPeriods f

/-- One reference clock period of the idle-gap timer (R61): it counts bit periods of the line's current rate, and with
its count at the limit it waits for IDLE_DUE (log entry 3). A bit period in which the rate changes ends when the clock
periods counted in it reach the new rate's bit period (DESIGN CHOICE, log entry 33). -/
def Line.clockIdle (l : Line) (f : Format) : Line :=
  if l.idleRuns && decide (l.idleBits < l.idleLimit f) then
    if l.idleClocks + 1 < bitClocks f then { l with idleClocks := l.idleClocks + 1 }
    else { l with idleBits := l.idleBits + 1, idleClocks := 0 }
  else l

/-- The idle-gap timer reaches its limit (R61). -/
def Line.setIdleDue (l : Line) : Line := if l.idleRuns then { l with idleStarted := false, idleDue := true } else l

/-- The count of a timer that runs has come to its limit (R61). -/
def Line.idleEnded (l : Line) (f : Format) : Bool := l.idleRuns && decide (l.idleLimit f ≤ l.idleBits)

/-- The idle-gap timer at its limit, reached as it counts or by a new IDLE_GAP or format (R61, R63). -/
def Line.checkIdleGap (l : Line) (f : Format) : Line := if l.idleEnded f then l.setIdleDue else l

/-! ### Taking up a setting (R63, R64) -/

/-- A change of FRAMED (R64). -/
def Line.resetFraming (l : Line) : Line :=
  { l with
    queue := []
    pacing := true
    remnant := false
    frameRx := .hunt
    tail := []
    frameBytes := 0
    txPhase := .idle
    abortPending := false
    inbandHold := false
    idleStarted := false
    idleBits := 0
    idleClocks := 0
    idleDue := false }

/-- The fields a new setting word changes by itself (R63). -/
def Line.storeSetting (l : Line) (w : Word) : Line :=
  { l with
    setting := w
    sensePrev := if setLoop w = setLoop l.setting then l.sensePrev else l.sensePrev.discard }

/-- The further effects of a change of FRAMED or INBAND (R64). -/
def Line.changeModes (l : Line) (w : Word) : Line :=
  if setFramed w ≠ l.framed then (l.storeSetting w).resetFraming
  else if setInband l.setting && !setInband w then { l.storeSetting w with inbandHold := false }
  else l.storeSetting w

/-- A setting word is applied at one instant (R63, R64): the modes change, the transmitter and the hold timer follow,
and both timer limits are evaluated again. A hold timer whose conditions the word has ended is cleared before the new
HOLD_LIMIT is looked at, so that limit sets no HOLD_DUE on the count it had reached (DESIGN CHOICE, log entry 28). -/
def Line.applySetting (s : State) (l : Line) (w : Word) : Line :=
  ((Line.tend s (l.changeModes w)).checkHoldLimit).checkIdleGap (s.formatOf { l with setting := w })

/-- Frame characters are applied (R63). -/
def Line.applyFrame (l : Line) (mark esc : Byte) : Line := { l with markChar := mark, escapeChar := esc }

/-! ### A line of the whole part -/

/-- Let line `n`'s transmitter and hold timer follow a change. -/
def State.tendLine (s : State) (n : LineNo) : State := s.onLine n (Line.tend s)

/-- A line that becomes `l'` ends a doze: an entry has joined its queue, or its IDLE_DUE has become set (R159). -/
def Line.tells (l l' : Line) : Bool := decide (l.queue.length < l'.queue.length) || (!l.idleDue && l'.idleDue)

/-- Line `n` becomes `l'`, which may end a doze (R159). -/
def State.putLine (s : State) (n : LineNo) (l' : Line) : State :=
  if (s.line n).tells l' then (s.setLine n l').endDoze else s.setLine n l'

end Sys2Proof.Machine
end

