-- ==== Sys2Proof/Machine/Sequencer.lean ====
section
/-! DEFINITION. The Visit Sequencer (Chapters 1, 2, 4, 5, 7 and 9): choosing a line, the three steps of a visit,
fetches, closes, and what each answer of host memory leads to. A visit runs on until it waits for an answer or ends. -/

namespace Sys2Proof.Machine

/-! ### The end of a visit (R29) -/

/-- The visit `v` ends: a held RESET_LINE is applied, a transitional state becomes its stable state, and a requested
doze is entered if it can be (R29, R158). -/
def endVisit (s : State) (v : Visit) : State :=
  State.enterRequestedDoze
    (State.settleSeq { (if v.resetHeld then s.applyLineReset v.line else s) with visit := none, mem := none })

/-! ### Closes (R16 to R19) -/

/-- What the beginning of a close clears for its direction (R16, R56, R62, R85, R90, R123). -/
def Line.beginClose (l : Line) : Dir → Line
  | .rx => { l with rxCancel := false }
  | .tx =>
    { l with
      txCancel := false
      holdDue := false
      underrunDue := false
      breakDone := false
      drainWait := false
      ownByte := false }

/-- The order-word write of a close. -/
def issueOrderWrite (s : State) (v : Visit) (dir : Dir) (order : Word) : State :=
  s.issue v (.writeOrder dir order) (.wordWrite order) (s.blockWord v.line (orderOffset dir)) (writebackAccess dir)

/-- The length-word write of a close. -/
def issueLengthWrite (s : State) (v : Visit) (dir : Dir) (order length : Word) : State :=
  s.issue v (.writeLength dir order) (.wordWrite length) (s.blockWord v.line (lengthOffset dir)) (writebackAccess dir)

/-- A close begins (R16): with its length word where it writes one (R17), then the order word. -/
def beginClose (s : State) (v : Visit) (dir : Dir) (order : Word) (length : Option Word) : State :=
  let s' := s.onLine v.line fun l => Line.tend s (l.beginClose dir)
  match length with
  | some w => issueLengthWrite s' v dir order w
  | none => issueOrderWrite s' v dir order

/-- The length word a close of a receive order writes (Table 13). -/
def rxCloseLength (o : RxOrder) : Option Word :=
  match o.mode with
  | .single => none
  | .block | .blockEcho | .frame => some (lengthWord o.count o.length)

/-- The length word a close of a transmit order writes (Table 13). -/
def txCloseLength (o : TxOrder) : Option Word :=
  match o.mode with
  | .block | .frame => some (lengthWord o.count o.length)
  | .single | .setting | .brk => none

/-- An accepted receive order begins its close. -/
def closeRx (s : State) (v : Visit) (o : RxOrder) (code : BitVec 5) (datum : Byte) : State :=
  beginClose s v .rx (rxClosed o datum code) (rxCloseLength o)

/-- An accepted transmit order begins its close. -/
def closeTx (s : State) (v : Visit) (o : TxOrder) (code : BitVec 5) (datum : Byte) : State :=
  beginClose s v .tx (txClosed o datum code) (txCloseLength o)

/-! ### Fetches (R11, R43) -/

/-- The order-word read of a fetch or cancel fetch. -/
def issueFetch (s : State) (v : Visit) (dir : Dir) (cancel : Bool) : State :=
  s.issue v (.fetchOrder dir cancel) .wordRead (s.blockWord v.line (orderOffset dir)) (orderAccess dir)

/-- A parameter-word read. -/
def issueParameter (s : State) (v : Visit) (dir : Dir) (point : VisitPoint) (offset : Nat) : State :=
  s.issue v point .wordRead (s.blockWord v.line offset) (parameterAccess dir)

/-! ### The TX step (R38, R84) -/

/-- A frame of this order has started and not ended (R125). -/
def Line.orderFrameOpen (l : Line) (o : TxOrder) : Bool := o.mode == .frame && o.count != 0 && l.frameOpen

/-- The order whose own byte a close discards: COUNT reduced by one (R93, R94). -/
def TxOrder.uncount (o : TxOrder) (own : Bool) : TxOrder := if own then { o with count := o.count - 1 } else o

/-- Holding after a close that discards the order's own byte (R85). -/
def Line.discardOwn (l : Line) : Line := if l.ownByte then { l with holding := none, ownByte := false } else l

/-- The data effects of a CANCELLED or HOLD_TIMEOUT close (R93, R94, R125): the own byte is discarded, and an abort pair
is owed for a started frame. -/
def Line.withdraw (l : Line) (o : TxOrder) : Line :=
  { l.discardOwn with
    abortPending := l.abortPending || l.orderFrameOpen o
    txOrder := some (o.uncount l.ownByte) }

/-- The order closes CANCELLED (R94). -/
def cancelTx (s : State) (v : Visit) (o : TxOrder) : State :=
  closeTx (s.onLine v.line fun l => l.withdraw o) v (o.uncount (s.line v.line).ownByte) codeCancelled 0

/-- DATUM of a HOLD_TIMEOUT close (R93): the discarded own byte, or 0. -/
def Line.heldDatum (l : Line) : Byte :=
  if l.ownByte then
    match l.holding with
    | some h => h.byte
    | none => 0
  else 0

/-- The order closes HOLD_TIMEOUT (R93). -/
def holdTimeout (s : State) (v : Visit) (o : TxOrder) : State :=
  closeTx (s.onLine v.line fun l => l.withdraw o) v (o.uncount (s.line v.line).ownByte) codeHoldTimeout
    (s.line v.line).heldDatum

/-- TX SINGLE loads its character and closes DONE (R86). -/
def loadSingle (s : State) (v : Visit) (o : TxOrder) : State :=
  closeTx
    (s.onLine v.line fun l =>
      Line.tend s { l with holding := some { byte := o.datum, first := false, last := false, source := .order } })
    v o codeDone o.datum

/-- The byte read of a TX BLOCK or TX FRAME order (R87, R126). -/
def issueLoad (s : State) (v : Visit) (o : TxOrder) : State :=
  s.issue v .loadByte .byteRead (o.address + o.count.setWidth 32) .txBuffer

/-- The break of a TX BREAK order starts (R91). -/
def startBreak (s : State) (v : Visit) (o : TxOrder) : State :=
  endVisit
    (s.onLine v.line fun l =>
      { l with
        drainWait := false
        txOrder := some { o with breakStarted := true }
        shifter := .brk o.datum (s.formatOf l) 0 (setLoop l.setting) })
    v

/-- A TX SETTING order applies its setting, or is refused with reason 6 (R92). -/
def applyOrderSetting (s : State) (v : Visit) (o : TxOrder) : State :=
  if setFramed o.settingWord ≠ (s.line v.line).framed ∧ (s.line v.line).rxOrder.isSome then
    closeTx s v o codeRejected 6
  else
    closeTx
      (s.onLine v.line fun l =>
        Line.applySetting s { l.applyFrame o.markChar o.escapeChar with drainWait := false } o.settingWord)
      v o codeDone 0

/-- Items 4 and 5 of R84: a load, a break start, a setting, or nothing. -/
def txAdvance (s : State) (v : Visit) (o : TxOrder) : State :=
  match o.mode with
  | .single => if (s.line v.line).holding.isNone then loadSingle s v o else endVisit s v
  | .block | .frame => if (s.line v.line).holding.isNone then issueLoad s v o else endVisit s v
  | .brk => if (s.line v.line).drainWait && (s.line v.line).drained then startBreak s v o else endVisit s v
  | .setting => if (s.line v.line).drainWait && (s.line v.line).drained then applyOrderSetting s v o else endVisit s v

/-- The work of an ACTIVE transmit order (R84). -/
def txMode (s : State) (v : Visit) (o : TxOrder) : State :=
  if (s.line v.line).underrunDue then closeTx s v o codeUnderrun 0
  else if (s.line v.line).holdDue then holdTimeout s v o
  else if (s.line v.line).breakDone then
    if o.mode = .brk ∧ o.breakStarted = true then closeTx s v o codeDone o.datum
    else txAdvance (s.onLine v.line fun l => { l with breakDone := false }) v o
  else txAdvance s v o

/-- The TX step (R38). -/
def txStep (s : State) (v : Visit) : State :=
  match (s.line v.line).txOrder with
  | some o => if v.txCancel then cancelTx s v o else txMode s v o
  | none =>
    if v.txCancel then issueFetch s v .tx true
    else if v.attn then issueFetch s v .tx false
    else endVisit s v

/-- What follows a step or a fetch of a direction: the TX step after RX, the end of the visit after TX (R35). -/
def afterStep (s : State) (v : Visit) : Dir → State
  | .rx => txStep s v
  | .tx => endVisit s v

/-! ### The RX step (R37, R67, R117) -/

/-- The code and DATUM with which a head entry closes RX SINGLE (Table 23). -/
def singleClosure : Entry → BitVec 5 × Byte
  | .brk _ => (codeBreak, 0)
  | .data v parity framing overrun _ =>
    if framing then (codeFraming, v)
    else if parity then (codeParity, v)
    else if overrun then (codeOverrun, v)
    else (codeDone, v)
  | .frameEnd st => (statusCode st, 0)

/-- The byte write that stores a character (R71, R117). -/
def issueStore (s : State) (v : Visit) (o : RxOrder) (quota : Nat) (value : Byte) : State :=
  s.issue v (.storeByte quota) (.byteWrite value) (o.address + o.count.setWidth 32) .rxBuffer

/-- The idle test of RX BLOCK (R76), then the TX step. It reads IDLE_DUE and not IDLE_GAP: one set before IDLE_GAP became
0 still closes the order (DEDUCED, log entry 38). -/
def rxIdleTest (s : State) (v : Visit) : State :=
  match (s.line v.line).rxOrder with
  | none => txStep s v
  | some o =>
    if o.mode = .block ∧ (s.line v.line).idleDue = true then
      if o.count = 0 then txStep (s.onLine v.line fun l => { l with idleDue := false }) v
      else if (s.line v.line).queue.isEmpty then
        closeRx (s.onLine v.line fun l => { l with idleDue := false }) v o codeIdle 0
      else txStep s v
    else txStep s v

/-- The code of an RX FRAME close at a FRAME_END (R117). -/
def frameCode (o : RxOrder) (st : FrameStatus) : BitVec 5 :=
  if st = .good ∧ o.overlong = true then codeOverlong else statusCode st

/-- The head entry leaves the queue of the visited line. -/
def popHead (s : State) (v : Visit) : State := s.onLine v.line Line.pop

/-- The ACTIVE receive order of the visited line is replaced by an updated copy. -/
def setRxOrder (s : State) (v : Visit) (o : RxOrder) : State := s.onLine v.line fun l => { l with rxOrder := some o }

/-- A receive order handles entries from the head of the queue while `quota` lasts (R67, R69, R70, R71, R117, R119). -/
def rxEntries (quota : Nat) (s : State) (v : Visit) : State :=
  match quota with
  | 0 => rxIdleTest s v
  | q + 1 =>
    match (s.line v.line).rxOrder, (s.line v.line).queue with
    | some o, e :: _ =>
      match o.mode, e with
      | .single, e => closeRx (popHead s v) v o (singleClosure e).1 (singleClosure e).2
      | .frame, .data value _ _ _ _ =>
        if (s.line v.line).remnant then rxEntries q (popHead s v) v
        else if o.count = o.length then
          rxEntries q (popHead (setRxOrder s v { o with overlong := true, frameBegun := true }) v) v
        else issueStore (setRxOrder s v { o with frameBegun := true }) v o q value
      | .frame, .frameEnd st =>
        if (s.line v.line).remnant then rxEntries q (popHead s v) v
        else closeRx (popHead s v) v o (frameCode o st) 0
      | .frame, .brk _ => txStep s v
      | .block, .data value parity framing _ _ =>
        if framing then closeRx (popHead s v) v o codeFraming value
        else if parity then closeRx (popHead s v) v o codeParity value
        else issueStore s v o q value
      | .blockEcho, .data value parity framing _ _ =>
        if framing then closeRx (popHead s v) v o codeFraming value
        else if parity then closeRx (popHead s v) v o codeParity value
        else issueStore s v o q value
      | .block, .brk _ => closeRx (popHead s v) v o codeBreak 0
      | .blockEcho, .brk _ => closeRx (popHead s v) v o codeBreak 0
      | .block, .frameEnd _ => txStep s v
      | .blockEcho, .frameEnd _ => txStep s v
    | _, _ => rxIdleTest s v

/-- The quota of a mode (R67, R117). -/
def rxQuotaOf : RxMode → Nat
  | .single => 1
  | .block | .blockEcho | .frame => Config.rxQuota

/-- The work of an ACTIVE receive order (R67, R77, R117): every mode but RX BLOCK clears IDLE_DUE first. -/
def rxMode (s : State) (v : Visit) (o : RxOrder) : State :=
  if o.mode = .block then rxEntries (rxQuotaOf o.mode) s v
  else rxEntries (rxQuotaOf o.mode) (s.onLine v.line fun l => { l with idleDue := false }) v

/-- A close of an RX FRAME order that leaves a remnant sets the remnant flag (R119). -/
def Line.markRemnant (l : Line) (o : RxOrder) : Line :=
  { l with remnant := l.remnant || (o.mode == .frame && o.frameBegun) }

/-- The order closes CANCELLED (R80, R120). -/
def cancelRx (s : State) (v : Visit) (o : RxOrder) : State :=
  closeRx (s.onLine v.line fun l => l.markRemnant o) v o codeCancelled 0

/-- The RX step (R37). -/
def rxStep (s : State) (v : Visit) : State :=
  match (s.line v.line).rxOrder with
  | some o => if v.rxCancel then cancelRx s v o else rxMode s v o
  | none =>
    if v.rxCancel then issueFetch s v .rx true
    else if v.attn then issueFetch s v .rx false
    else txStep s v

/-! ### Beginning a visit (R32, R34, R36) -/

/-- What the STATUS step leaves of a line's SENSE record (R36): a change accepted at the same instant stands after it. -/
def Line.reportStatus (l : Line) : Line :=
  { l with
    statusPending := l.countBefore.isSome
    changeCount := if l.countBefore.isSome then 1 else 0
    countBefore := l.countBefore.map fun _ => 0
    lastReported := l.senseBefore }

/-- The STATUS step (R36): it reports the changes accepted before its instant. -/
def statusStep (s : State) (n : LineNo) : State :=
  if (s.line n).pendingBefore then
    (s.offer (statusEvent n (s.line n) (s.line n).senseBefore (s.line n).changesBefore)).onLine n Line.reportStatus
  else s

/-- The snapshot a visit to line `n` takes (R32). -/
def snapshot (s : State) (n : LineNo) : Visit where
  line := n
  attn := (s.line n).attn
  rxCancel := (s.line n).rxCancel
  txCancel := (s.line n).txCancel
  resetHeld := false
  point := .loadByte

/-- A visit to line `n` begins and makes its steps (R32, R35). -/
def beginVisit (s : State) (n : LineNo) : State :=
  rxStep (statusStep ({ s with position := n }.onLine n fun l => { l with attn := false }) n) (snapshot s n)

/-- The line `k` places after the round-robin position (R34). -/
def State.nthLine (s : State) (k : Nat) : LineNo := ⟨(s.position.val + k) % 16, Nat.mod_lt _ (by decide)⟩

/-- The first line from the position of which `f` holds (R34). -/
def State.firstLine (s : State) (f : Line → Bool) : Option LineNo :=
  ((List.range 16).map fun k => s.nthLine (k + 1)).find? fun n => f (s.line n)

/-- The first line from the position that needs service (R34). -/
def State.chooseLine (s : State) : Option LineNo := s.firstLine Line.needsService

/-- The line needs service without the SENSE level accepted at the current beat boundary (R33, R36). -/
def Line.neededService (l : Line) : Bool := { l with statusPending := l.pendingBefore }.needsService

/-- The sequencer may choose a line: RUNNING, in ACTIVE, between visits (R24, R34). -/
def State.mayVisit (s : State) : Bool := s.seq == .running && s.power == .active && s.visit.isNone

/-- The sequencer chooses the next line and begins its visit; it rests where it may not, or no line needs service. -/
def nextVisit (s : State) : State :=
  if s.mayVisit then
    match s.chooseLine with
    | some n => beginVisit s n
    | none => s
  else s

/-! ### Fetched words (R11 to R15, R43) -/

/-- A fetch ends in a rejection (R15); reason 3 writes the length word as 0. -/
def reject (s : State) (v : Visit) (dir : Dir) (order : Word) (reason : Byte) : State :=
  beginClose s v dir (closedFetched order reason codeRejected) (if reason = 3 then some 0 else none)

/-- The copy of a receive order (R14). -/
def copyRx (mode : RxMode) (order address length : Word) : RxOrder where
  mode := mode
  flags := flagBits order
  tag := tagBits order
  datum := datumBits order
  address := address
  length := lengthBits length
  count := 0
  overlong := false
  frameBegun := false

/-- The copy of a transmit order (R14). -/
def copyTx (mode : TxMode) (order address length setting frame : Word) : TxOrder where
  mode := mode
  flags := flagBits order
  tag := tagBits order
  datum := datumBits order
  address := address
  length := lengthBits length
  count := 0
  settingWord := setting
  markChar := frameMark frame
  escapeChar := frameEscape frame
  breakStarted := false

/-- A receive order is accepted (R14) and does its work in the same step (R37). -/
def acceptRx (s : State) (v : Visit) (o : RxOrder) : State := rxMode (setRxOrder s v o) v o

/-- The mode begins with a drain wait (R90). -/
def TxMode.drains : TxMode → Bool
  | .setting | .brk => true
  | .single | .block | .frame => false

/-- A transmit order is accepted (R14, R90) and does its work in the same step (R38). -/
def acceptTx (s : State) (v : Visit) (o : TxOrder) : State :=
  txMode
    (s.onLine v.line fun l => Line.tend s { l with txOrder := some o, drainWait := o.mode.drains, ownByte := false }) v o

/-- An RX order word has been read by an ordinary fetch. -/
def fetchedRx (s : State) (v : Visit) (order : Word) : State :=
  match rxRejection order (s.line v.line).framed, rxModeOf (modeBits order) with
  | some reason, _ => reject s v .rx order reason
  | none, some .single => acceptRx s v (copyRx .single order 0 0)
  | none, _ => issueParameter s v .rx (.fetchAddress .rx order) (addressOffset .rx)

/-- A TX order word has been read by an ordinary fetch. -/
def fetchedTx (s : State) (v : Visit) (order : Word) : State :=
  match txRejection order (s.line v.line).framed, txModeOf (modeBits order) with
  | some reason, _ => reject s v .tx order reason
  | none, some .single => acceptTx s v (copyTx .single order 0 0 0 0)
  | none, some .brk => acceptTx s v (copyTx .brk order 0 0 0 0)
  | none, some .setting => issueParameter s v .tx (.fetchSetting order) settingOffset
  | none, _ => issueParameter s v .tx (.fetchAddress .tx order) (addressOffset .tx)

/-- A cancel fetch has read its order word (R43). -/
def fetchedCancel (s : State) (v : Visit) (dir : Dir) (order : Word) : State :=
  if ownBit order then beginClose s v dir (closedFetched order 0 codeCancelled) none
  else
    afterStep
      (s.onLine v.line fun l =>
        match dir with
        | .rx => { l with rxCancel := false }
        | .tx => { l with txCancel := false })
      v dir

/-- An ordinary fetch has read its order word (R11). -/
def fetchedOrder (s : State) (v : Visit) (dir : Dir) (order : Word) : State :=
  if ownBit order then
    match dir with
    | .rx => fetchedRx s v order
    | .tx => fetchedTx s v order
  else afterStep s v dir

/-- A length word has been read (R7, R13). -/
def fetchedLength (s : State) (v : Visit) (dir : Dir) (order address length : Word) : State :=
  if lengthBits length = 0 then reject s v dir order 3
  else
    match dir with
    | .rx => acceptRx s v (copyRx ((rxModeOf (modeBits order)).getD .block) order address length)
    | .tx => acceptTx s v (copyTx ((txModeOf (modeBits order)).getD .block) order address length 0 0)

/-- A setting word has been read (R8, R13). -/
def fetchedSetting (s : State) (v : Visit) (order setting : Word) : State :=
  if settingValid setting then issueParameter s v .tx (.fetchFrame order setting) frameOffset
  else reject s v .tx order 5

/-- A frame word has been read (R9, R13). -/
def fetchedFrame (s : State) (v : Visit) (order setting frame : Word) : State :=
  match frameRejection setting frame with
  | some reason => reject s v .tx order reason
  | none => acceptTx s v (copyTx .setting order 0 0 setting frame)

/-- A word read has returned its data. -/
def wordArrived (s : State) (v : Visit) (w : Word) : State :=
  match v.point with
  | .fetchOrder dir true => fetchedCancel s v dir w
  | .fetchOrder dir false => fetchedOrder s v dir w
  | .fetchAddress dir order => issueParameter s v dir (.fetchLength dir order w) (lengthOffset dir)
  | .fetchLength dir order address => fetchedLength s v dir order address w
  | .fetchSetting order => fetchedSetting s v order w
  | .fetchFrame order setting => fetchedFrame s v order setting w
  | .storeByte _ | .loadByte | .writeLength _ _ | .writeOrder _ _ => s

/-! ### Writebacks (R16, R18) -/

/-- The direction becomes VACANT (R16). -/
def Line.vacate (l : Line) : Dir → Line
  | .rx => { l with rxOrder := none }
  | .tx => { l with txOrder := none }

/-- The end event is inserted where it is due (R18). -/
def State.offerEnd (s : State) (dir : Dir) (n : LineNo) (order : Word) : State :=
  if endEventDue order then s.offer (endEvent dir n order) else s

/-- The order-word write of a close has completed (R16). -/
def closeEnds (s : State) (v : Visit) (dir : Dir) (order : Word) : State :=
  afterStep ((s.onLine v.line fun l => Line.tend s (l.vacate dir)).offerEnd dir v.line order) v dir

/-- A word write has been accepted. -/
def wordWritten (s : State) (v : Visit) : State :=
  match v.point with
  | .writeLength dir order => issueOrderWrite s v dir order
  | .writeOrder dir order => closeEnds s v dir order
  | .fetchOrder _ _ | .fetchAddress _ _ | .fetchLength _ _ _ | .fetchSetting _ | .fetchFrame _ _ | .storeByte _
  | .loadByte => s

/-! ### Buffer bytes (R71 to R75, R87, R88, R117, R124, R126) -/

/-- The stored character is to be echoed (R73). -/
def echoWanted (o : RxOrder) (classes : BitVec 4) : Bool :=
  o.mode == .blockEcho && !(markStopFlag o.flags && classMark classes)

/-- An echo can be made (R73). -/
def Line.mayEcho (l : Line) : Bool := l.txOrder.isNone && l.holding.isNone && !l.inHold

/-- An echo is placed in holding (R73). -/
def Line.echo (l : Line) (value : Byte) : Line :=
  { l with holding := some { byte := value, first := false, last := false, source := .echo } }

/-- The code with which a stored character closes a block order, if it closes it (Table 24). -/
def storedClosure (o : RxOrder) (overrun echoFailed : Bool) (classes : BitVec 4) : Option (BitVec 5) :=
  if overrun then some codeOverrun
  else if echoFailed then some codeNotEchoed
  else if markStopFlag o.flags && classMark classes then some codeMarked
  else if o.count = o.length then some codeDone
  else none

/-- A block order has stored the character at the head (R71, R73, R75); `o` already counts it. -/
def storedBlock (s : State) (v : Visit) (o : RxOrder) (quota : Nat) (value : Byte) (overrun : Bool)
    (classes : BitVec 4) : State :=
  let wanted := echoWanted o classes
  let may := (s.line v.line).mayEcho
  let s' := if wanted && may then s.onLine v.line fun l => Line.tend s (l.echo value) else s
  match storedClosure o overrun (wanted && !may) classes with
  | some code => closeRx s' v o code value
  | none => rxEntries quota s' v

/-- A receive order counts the character at the head and its entry leaves (R71, R117). -/
def countStored (s : State) (v : Visit) (o : RxOrder) : State := popHead (setRxOrder s v o) v

/-- A receive byte write has been accepted (R71, R117). -/
def byteStored (s : State) (v : Visit) (quota : Nat) : State :=
  match (s.line v.line).rxOrder, (s.line v.line).queue with
  | some o, .data value _ _ overrun classes :: _ =>
    let o' := { o with count := o.count + 1 }
    if o.mode = .frame then rxEntries quota (countStored s v o') v
    else storedBlock (countStored s v o') v o' quota value overrun classes
  | _, _ => txStep s v

/-- The holding byte of a load (R87, R126). -/
def loadedHolding (o : TxOrder) (b : Byte) : Holding where
  byte := b
  first := o.mode == .frame && o.count == 0
  last := o.mode == .frame && o.count + 1 == o.length
  source := .order

/-- The MARK test of a loaded byte (R88, R106). -/
def loadMarks (s : State) (l : Line) (o : TxOrder) (b : Byte) : Bool :=
  o.mode == .block && markStopFlag o.flags &&
    classMark (classLookup s.classTable (setClassB l.setting) (lineValue (s.formatOf l) b))

/-- A transmit byte is loaded as the order's own byte (R87, R126). -/
def Line.load (l : Line) (o : TxOrder) (b : Byte) : Line :=
  { l with
    holding := some (loadedHolding o b)
    ownByte := true
    txOrder := some { o with count := o.count + 1 } }

/-- A transmit byte read has returned its data (R87, R88, R124, R126). -/
def byteLoaded (s : State) (v : Visit) (b : Byte) : State :=
  match (s.line v.line).txOrder with
  | none => endVisit s v
  | some o =>
    if (s.line v.line).underrunDue then endVisit s v
    else
      let s' := s.onLine v.line fun l => Line.tend s (l.load o b)
      let o' := { o with count := o.count + 1 }
      if o'.count = o.length then closeTx s' v o' codeDone b
      else if loadMarks s (s.line v.line) o b then closeTx s' v o' codeMarked b
      else endVisit s' v

/-! ### Memory faults (R144 to R148) -/

/-- What becoming FAULTED does to a line (R148). -/
def Line.fail (l : Line) : Line :=
  { l with
    faulted := true
    rxOrder := none
    txOrder := none
    drainWait := false
    holdDue := false
    underrunDue := false
    breakDone := false
    remnant := false
    ownByte := false
    holding := none
    abortPending := l.abortPending || l.frameOpen }

/-- A fault on a fetch or a writeback (R145, R147): the line becomes FAULTED, LINE_FAULT is inserted, the visit ends. -/
def lineFault (s : State) (v : Visit) (t : Txn) (cause : FaultCause) : State :=
  endVisit ((s.onLine v.line fun l => Line.tend s l.fail).offer (lineFaultEvent t cause)) v

/-- A fault on a receive byte write (R72, R118): the character is lost and the order closes BUS_FAULT. -/
def rxBufferFault (s : State) (v : Visit) : State :=
  match (s.line v.line).rxOrder, (s.line v.line).queue with
  | some o, .data value _ _ _ _ :: _ =>
    closeRx (s.onLine v.line fun l => l.pop.markRemnant o) v o codeBusFault value
  | _, _ => txStep s v

/-- A fault on a transmit byte read (R89, R125): the order closes BUS_FAULT, an abort pair owed for a started frame. -/
def txBufferFault (s : State) (v : Visit) : State :=
  match (s.line v.line).txOrder with
  | some o =>
    closeTx (s.onLine v.line fun l => { l with abortPending := l.abortPending || l.orderFrameOpen o }) v o codeBusFault 0
  | none => endVisit s v

/-- A transaction has ended in a fault (R144 to R147). -/
def txnFault (s : State) (v : Visit) (t : Txn) (cause : FaultCause) : State :=
  match v.point with
  | .storeByte _ => rxBufferFault (s.recordFault t cause) v
  | .loadByte => txBufferFault (s.recordFault t cause) v
  | .fetchOrder _ _ | .fetchAddress _ _ | .fetchLength _ _ _ | .fetchSetting _ | .fetchFrame _ _ | .writeLength _ _
  | .writeOrder _ _ => lineFault (s.recordFault t cause) v t cause

/-! ### Answers (R143) -/

/-- The transaction has ended. -/
def State.freeEngine (s : State) : State := { s with mem := none }

/-- An answer to a word read. -/
def answerWordRead (s : State) (tag : Nat) (a : WordAnswer) : State :=
  match s.awaited tag with
  | some (v, t) =>
    match t.request, a with
    | .wordRead, .ok w => wordArrived s.freeEngine v w
    | .wordRead, .error => txnFault s.freeEngine v t .busError
    | .wordWrite _, _ | .byteRead, _ | .byteWrite _, _ => s
  | none => s

/-- An answer to a word write. -/
def answerWordWrite (s : State) (tag : Nat) (a : WriteAnswer) : State :=
  match s.awaited tag with
  | some (v, t) =>
    match t.request, a with
    | .wordWrite _, .ok => wordWritten s.freeEngine v
    | .wordWrite _, .error => txnFault s.freeEngine v t .busError
    | .wordRead, _ | .byteRead, _ | .byteWrite _, _ => s
  | none => s

/-- An answer to a byte write. -/
def answerByteWrite (s : State) (tag : Nat) (a : WriteAnswer) : State :=
  match s.awaited tag with
  | some (v, t) =>
    match t.request, v.point, a with
    | .byteWrite _, .storeByte quota, .ok => byteStored s.freeEngine v quota
    | .byteWrite _, _, .error => txnFault s.freeEngine v t .busError
    | _, _, _ => s
  | none => s

/-- An answer to a byte read. -/
def answerByteRead (s : State) (tag : Nat) (a : ByteAnswer) : State :=
  match s.awaited tag with
  | some (v, t) =>
    match t.request, a with
    | .byteRead, .ok b => byteLoaded s.freeEngine v b
    | .byteRead, .error => txnFault s.freeEngine v t .busError
    | .wordRead, _ | .wordWrite _, _ | .byteWrite _, _ => s
  | none => s

/-- The outstanding transaction times out (R143). -/
def timeOut (s : State) : State :=
  match s.visit, s.mem with
  | some v, some t => txnFault s.freeEngine v t .timeout
  | _, _ => s

end Sys2Proof.Machine
end

