-- ==== Sys2Proof/Machine/Timebase.lean ====
section
/-! DEFINITION. The beat boundary (R2) and what falls due at one: the hold limit, the memory timeout, the cadence tick,
the resweep, the guard's expiry, automatic doze and the entry into STANDBY. A beat boundary advances the counts; each
expiry is carried out by its own command, or, before any other command acts, by `finishInstant` (assumption log,
entry 1). -/

namespace Sys2Proof.Machine

/-! ### What is due -/

/-- A hold timer has reached its limit (R62). -/
def State.holdsDue (s : State) : Bool := (List.finRange 16).any fun n => (s.line n).holdReached

/-- The outstanding transaction has met its second beat boundary (R143). -/
def State.timeoutDue (s : State) : Bool :=
  match s.visit, s.mem with
  | some _, some t => decide (2 ≤ t.beats)
  | _, _ => false

/-- The cadence count has reached CADENCE (R136). -/
def State.tickDue (s : State) : Bool := s.cadence != 0 && decide (s.cadence.toNat ≤ s.cadenceCount)

/-- The resweep count has reached RESWEEP (R41). -/
def State.resweepDue (s : State) : Bool := s.resweep != 0 && decide (s.resweep.toNat ≤ s.resweepCount)

/-- The guard counter has reached 0 (R166). -/
def State.guardDue (s : State) : Bool := s.livenessEn && s.guardRunning && s.guardCount == 0

/-- The idle condition has held across two beat boundaries, and DOZE may be entered (R158). -/
def State.autoDozeDue (s : State) : Bool := s.watchedIdle && decide (2 ≤ s.idleBeats) && s.mayDoze

/-- In STANDBY_ENTRY every transmitter is drained and no transaction is outstanding (R160). -/
def State.standbyDue (s : State) : Bool := s.power == .standbyEntry && s.allDrained && s.mem.isNone

/-- On some line the SENSE level accepted at the last beat boundary stands apart, since the instant lasts (R36). -/
def State.countsOpen (s : State) : Bool := (List.finRange 16).any fun n => (s.line n).countBefore.isSome

/-- Nothing is due, the idle watch stands at 0 where there is nothing to watch, and the instant of the last beat
boundary is over. -/
def State.settled (s : State) : Bool :=
  !s.holdsDue && !s.timeoutDue && !s.tickDue && !s.resweepDue && !s.guardDue && !s.autoDozeDue && !s.standbyDue &&
    (s.watchedIdle || s.idleBeats == 0) && !s.dozeBarred && !s.countsOpen

/-! ### The expiries -/

/-- Hold timers that have reached their limit set HOLD_DUE (R62). -/
def State.expireHolds (s : State) : State := if s.holdsDue then s.onLines fun _ l => l.setHoldDue else s

/-- The hold timer of line `n` sets HOLD_DUE if it has reached its limit (R62). -/
def State.expireHold (s : State) (n : LineNo) : State := s.onLine n Line.setHoldDue

/-- The outstanding transaction times out if it is due to (R143). -/
def State.expireTimeout (s : State) : State := if s.timeoutDue then timeOut s else s

/-- The cadence expires if it is due to (R136, R137). -/
def State.expireTick (s : State) : State :=
  if s.tickDue then
    { s with tick := true, missed := if s.tick then min 15 (s.missed + 1) else s.missed, cadenceCount := 0 }
  else s

/-- A resweep sets ATTN on a line that is not FAULTED (R41). -/
def Line.resweep (l : Line) : Line := if l.faulted then l else { l with attn := true }

/-- The resweep expires if it is due to (R41). One that has reached RESWEEP at the boundary at which the guard expires
sets ATTN after the entry into QUIESCING or QUIESCED (DESIGN CHOICE, log entry 36). -/
def State.expireResweep (s : State) : State :=
  if s.resweepDue then { s.onLines fun _ l => l.resweep with resweepCount := 0 } else s

/-- The sequencer moves towards QUIESCED (R30). -/
def State.quiesceSeq (s : State) : State := if s.visit.isSome then s.moveSeq .quiescing else s.enterQuiesced

/-- The guard expires (R166): the alert, the LIVENESS event, the move towards QUIESCED, and the counter's end. -/
def State.guardExpires (s : State) : State :=
  State.quiesceSeq (({ s with alertLiveness := true, guardRunning := false }.offer livenessEvent).endDoze)

/-- The guard expires if it is due to (R166). -/
def State.expireGuard (s : State) : State := if s.guardDue then s.guardExpires else s

/-- An automatic doze is entered if it is due (R158). -/
def State.enterAutoDoze (s : State) : State :=
  if s.autoDozeDue then s.enterDoze else s

/-- The lines for which `f` holds, bit `n` for line `n`. -/
def State.lineMask (s : State) (f : Line → Bool) : BitVec 16 := BitVec.ofFnLE fun n => f (s.line n)

/-- What STANDBY does to a line (R161): a receiver in START or ASSEMBLE abandons its character. -/
def Line.freeze (l : Line) : Line :=
  if l.receiver.phase = .start ∨ l.receiver.phase = .assemble then l.enterSearch else l

/-- STANDBY is entered if it is due (R160, R161), before a beat boundary that is told after it at the same instant
(DESIGN CHOICE, log entry 42). -/
def State.enterStandby (s : State) : State :=
  if s.standbyDue then
    { s.onLines fun _ l => l.freeze with
      power := .standby
      wakeEn := s.lineMask fun l => setWakeEn l.setting
      wakeLoop := s.lineMask fun l => setLoop l.setting
      wakeStart := 0
      wakeSense := 0 }
  else s

/-- What is due at the beat boundary before a visit can end at the same instant: hold limits, then the timeout. -/
def State.finishVisit (s : State) : State := s.expireHolds.expireTimeout

/-- Everything due but the resweep and the power states: a visit that ends at the instant ends before the guard expires
(R166). -/
def State.finishGuard (s : State) : State := s.finishVisit.expireTick.expireGuard

/-- Everything due but the power states. -/
def State.finishTimers (s : State) : State := s.finishGuard.expireResweep

/-- The watch on the idle condition restarts when the condition has ended (R158). -/
def State.watchIdle (s : State) : State := if s.watchedIdle then s else { s with idleBeats := 0 }

/-- SENSE levels accepted at the last beat boundary count as any other from now on (R36). -/
def State.closeCounts (s : State) : State := if s.countsOpen then s.onLines fun _ l => l.closeCount else s

/-- The instant of the last beat boundary is over: the idle watch has followed what happened at it, and a SENSE level
accepted at it bars no doze from now on and is reported as any other (R36, R158, R159). -/
def State.endInstant (s : State) : State := { s.watchIdle.closeCounts with dozeBarred := false }

/-- Everything that is due is carried out, and the instant is over. -/
def State.finishInstant (s : State) : State := s.finishTimers.enterAutoDoze.enterStandby.endInstant

/-! ### Commands and expiries -/

/-- The outcome of a step. The part stops in no state. -/
abbrev Result := Host.Outcome State Fault Refusal

/-- A command acts: what is due before it is carried out first. -/
def command (f : State → State) (s : State) : Result := .next (f s.finishInstant).watchIdle

/-- An expiry acts by itself. -/
def expiry (f : State → State) (s : State) : Result := .next (f s).watchIdle

/-- The transaction that an answer numbered `tag` belongs to has been outstanding over a beat boundary (R143). -/
def State.outlasts (s : State) (tag : Nat) : Bool :=
  match s.awaited tag with
  | some (_, t) => t.beats != 0
  | none => false

/-- What stands before an answer: where its transaction has been outstanding over a beat boundary, the answer falls at
the instant of the last one unless that instant is over, so it comes before the timeout (R143) and all that follows it
(log entry 1). -/
def State.beforeAnswer (s : State) (tag : Nat) : State := if s.outlasts tag then s.expireHolds else s.finishInstant

/-- An answer to the transaction numbered `tag` acts. -/
def answered (tag : Nat) (f : State → State) (s : State) : Result := .next (f (s.beforeAnswer tag)).watchIdle

/-! ### The beat boundary (R2) -/

/-- A line at a beat boundary (R57, R62): the hold timer counts, SENSE is sampled, and the transmitter follows a hold
state that has ended. -/
def Line.beat (s : State) (l : Line) (pin : Bool) : Line := Line.tend s (l.countHold.sampleSense pin)

/-- A SENSE level is accepted on some line at this boundary (R159). -/
def State.acceptsSense (s : State) (sense : BitVec 16) : Bool :=
  (List.finRange 16).any fun n => (s.line n).acceptsSense (sense.getLsbD n.val)

/-- The cadence counts this boundary (R136). -/
def State.countCadence (s : State) : Nat := if s.cadence = 0 then s.cadenceCount else s.cadenceCount + 1

/-- The resweep timer counts (R41): the power state just before the boundary decides, so a boundary whose own SENSE level
ends a doze is not counted (DESIGN CHOICE, log entry 35). -/
def State.resweepCounts (s : State) : Bool := s.resweep != 0 && s.power == .active && !s.quiet

/-- The guard counts (R166). -/
def State.guardCounts (s : State) : Bool := s.livenessEn && s.guardRunning && !s.quiet

/-- An event record's age advances (R138). A record that a row inserts after BEAT_BOUNDARY at the same instant has age 0
and does not count that boundary (DESIGN CHOICE, log entry 27). -/
def EventRec.older (e : EventRec) : EventRec := { e with age := min 255 (e.age + 1) }

/-- A transaction outstanding over one more beat boundary (R2, R143). What an answer or a visit at this instant issues is
issued after the boundary and does not count it (log entry 1). -/
def Txn.older (t : Txn) : Txn := { t with beats := t.beats + 1 }

/-- The beat divider begins the next beat, and every block that counts beats advances (R2). What the rows of this
instant bring after it does not count it: a transaction by R143, a record by the model's choice (log entry 27). -/
def State.countBeat (s : State) (sense : BitVec 16) : State :=
  { s.onLines fun n l => l.beat s (sense.getLsbD n.val) with
    beatClocks := 0
    sensePins := sense
    mem := s.mem.map Txn.older
    events := s.events.map EventRec.older
    cadenceCount := s.countCadence
    resweepCount := if s.resweepCounts then s.resweepCount + 1 else s.resweepCount
    guardCount := if s.guardCounts then s.guardCount - 1 else s.guardCount
    idleBeats := if s.watchedIdle then min 2 (s.idleBeats + 1) else s.idleBeats }

/-- A beat boundary (R2): none occurs while the clock is stopped or settling. An accepted SENSE level ends a doze, and
one entered at the same instant ends at once (R159; log entry 31). The doze ends after the counts (log entry 35). -/
def State.beat (s : State) (sense : BitVec 16) : State :=
  if s.clockRuns then
    if s.acceptsSense sense then { (s.countBeat sense).endDoze with dozeBarred := true } else s.countBeat sense
  else s

end Sys2Proof.Machine
end

