-- ==== Sys2Proof/Machine/Registers.lean ====
section
/-! DEFINITION. Reads of the register window (Tables 35, 39, 41, 44, 47 to 52): the word each register shows, and the
side effects of the six reads that have one (Table 46). -/

namespace Sys2Proof.Machine

/-! ### The words shown -/

/-- SEQ_STATE (Table 49). -/
def seqBits : SeqState → Nat
  | .stopped => 0
  | .running => 1
  | .pausing => 2
  | .paused => 3
  | .stopping => 4
  | .quiescing => 5
  | .quiesced => 6

/-- POWER_STATE (Table 42). -/
def powerBits : PowerState → Nat
  | .active => 0
  | .doze => 1
  | .standbyEntry => 2
  | .standby => 3
  | .waking => 4

/-- REQ (Table 48). -/
def reqBits : PowerReq → Nat
  | .active => 0
  | .doze => 1
  | .standby => 2

/-- KIND (Table 36). -/
def kindBits : EventKind → Nat
  | .rxEnd => 1
  | .txEnd => 2
  | .status => 3
  | .lineFault => 4
  | .loss => 5
  | .liveness => 6
  | .wake => 7

/-- A record as a read returns it, with TICK and MORE merged (Table 35). -/
def recordWord (e : EventRec) (tick more : Bool) : Word :=
  placed (kindBits e.kind) 29 ||| placed e.line.val 25 ||| flagAt tick 24 ||| flagAt more 23 |||
    placed e.a.toNat 16 ||| placed e.b.toNat 8 ||| placed e.c.toNat 0

/-- The head record as a read returns it, NONE for an empty queue (R131, R134, R135). -/
def State.headWord (s : State) (more : Bool) : Word :=
  match s.events with
  | [] => flagAt s.tick 24
  | e :: _ => recordWord e s.tick more

/-- CONTROL (Table 50). -/
def State.controlWord (s : State) : Word :=
  flagAt s.eventIe 0 ||| flagAt s.tickIe 1 ||| flagAt s.conRxIe 2 ||| flagAt s.conTxIe 3 ||| flagAt s.alertIe 4 |||
    flagAt s.livenessEn 8

/-- STATUS (Table 49). -/
def State.statusWord (s : State) : Word :=
  placed (seqBits s.seq) 0 ||| placed (powerBits s.power) 4 ||| flagAt s.mem.isSome 8 ||| flagAt s.alertLiveness 9 |||
    flagAt s.cmdIgnored 10 ||| flagAt s.writeIgnored 11 ||| flagAt s.eventCondition 16 ||| flagAt s.tick 17 |||
    flagAt s.conRxReady 18 ||| flagAt s.conTxReady 19 ||| flagAt s.alertLiveness 20 ||| flagAt s.irq 24

/-- EVENT_LEVEL (Table 47). -/
def State.levelWord (s : State) : Word :=
  placed s.events.length 0 ||| flagAt s.overflow 7 ||| placed s.missed 8 ||| placed s.lost 16

/-- COALESCE (R139, R141). -/
def State.coalesceWord (s : State) : Word := placed s.threshold.toNat 0 ||| placed s.ageLimit.toNat 8

/-- POWER (Table 48). -/
def State.powerWord (s : State) : Word :=
  placed (reqBits s.req) 0 ||| flagAt s.autoDoze 4 ||| placed (powerBits s.power) 8

/-- The cause a fault descriptor shows, 0 where no fault is recorded (Table 39). -/
def shownCause : Option FaultCause → Nat
  | none => 0
  | some c => causeBits c

/-- FAULT_DESC (Table 39). -/
def FaultDesc.word (d : FaultDesc) : Word :=
  placed d.count 16 ||| placed (shownCause d.cause) 8 ||| placed (accessBits d.access) 4 ||| placed d.line.val 0

/-- The value a CON_DATA read returns for an entry (R152). -/
def Entry.value : Entry → Byte
  | .data v _ _ _ _ => v
  | .brk _ => 0
  | .frameEnd _ => 0

/-- HEAD_KIND and HEAD_FLAGS of an entry (Table 41). -/
def Entry.headWord : Entry → Word
  | .data _ parity framing overrun _ => flagAt parity 4 ||| flagAt framing 5 ||| flagAt overrun 6
  | .brk overrun => placed 1 1 ||| flagAt overrun 6
  | .frameEnd st => placed 2 1 ||| placed (statusCode st).toNat 4

/-- HEAD_KIND and HEAD_FLAGS of a queue, 0 where it is empty (Table 41). -/
def queueHeadWord : List Entry → Word
  | [] => 0
  | e :: _ => e.headWord

/-- CON_DATA (R150, R152). -/
def State.conDataWord (s : State) : Word :=
  if s.consoleActive then
    match (s.line 0).queue with
    | [] => 0
    | e :: _ => e.value.setWidth 32
  else 0

/-- CON_STATUS (R150, Table 41). -/
def State.conStatusWord (s : State) : Word :=
  if s.consoleActive then
    flagAt (!(s.line 0).queue.isEmpty) 0 ||| queueHeadWord (s.line 0).queue ||| flagAt (s.line 0).holding.isNone 8 |||
      flagAt (s.line 0).drained 9 ||| flagAt s.txLost 10 ||| flagAt true 15
  else 0

/-- LINE_STATE (Table 51). -/
def State.lineStateWord (s : State) (n : LineNo) : Word :=
  flagAt (s.line n).rxOrder.isSome 0 ||| flagAt (s.line n).txOrder.isSome 1 ||| flagAt (s.line n).faulted 2 |||
    flagAt (s.line n).attn 3 ||| flagAt (s.line n).drainWait 4 ||| flagAt (s.line n).inHold 5 |||
    flagAt (s.line n).inbandHold 6 ||| flagAt (s.line n).sense 8 ||| flagAt (s.ctlPin n) 9 |||
    placed (s.line n).queue.length 16

/-- LINE_FRAME (Table 10). -/
def Line.frameWord (l : Line) : Word := placed l.escapeChar.toNat 8 ||| placed l.markChar.toNat 0

/-- LINE_COUNTS (Table 52). -/
def Line.countsWord (l : Line) : Word := placed l.framesDropped 0 ||| placed l.changeCount 8

/-! ### EVENT_TAKE's removal (R129, R135) -/

/-- TICK is cleared, the head record removed, and a due LOSS marker joins. -/
def State.takeEvent (s : State) : State :=
  match s.events with
  | [] => { s with tick := false }
  | _ :: rest =>
    if s.overflow then
      { s with events := rest ++ [lossEvent s.lost], overflow := false, lost := 0, tick := false }
    else { s with events := rest, tick := false }

/-! ### A read of the window -/

/-- The word a whole-word read of a register returns (Table 44). -/
def State.readWord (s : State) : Reg → Word
  | .ident => Config.ident
  | .control => s.controlWord
  | .status => s.statusWord
  | .tableBase => s.tableBase
  | .eventPeek => s.headWord (decide (2 ≤ s.events.length))
  | .eventTake => s.headWord (!s.takeEvent.events.isEmpty)
  | .eventLevel => s.levelWord
  | .coalesce => s.coalesceWord
  | .cadence => s.cadence.setWidth 32
  | .resweep => s.resweep.setWidth 32
  | .livenessPeriod => s.livenessPeriod.setWidth 32
  | .power => s.powerWord
  | .classIndex => s.classIndex.setWidth 32
  | .classData => (classEntry s.classTable s.classIndex).setWidth 32
  | .customDivisor => s.customDivisor.setWidth 32
  | .faultAddr => s.faultAddr
  | .faultDesc => s.faultDesc.word
  | .conData => s.conDataWord
  | .conStatus => s.conStatusWord
  | .lineSelect => placed s.lineSelect.val 0
  | .lineState => s.lineStateWord s.lineSelect
  | .lineSetting => (s.line s.lineSelect).setting
  | .lineFrame => (s.line s.lineSelect).frameWord
  | .lineCounts => (s.line s.lineSelect).countsWord
  | .command | .doorbell | .lineCmd | .keepalive => 0

/-- The word a read at an offset returns: 0 where no register is (R170). -/
def State.readOffset (s : State) (offset : BitVec 8) : Word :=
  match regAt offset with
  | some r => s.readWord r
  | none => 0

/-- What a read of a register changes (Table 46). -/
def State.readEffect (s : State) : Reg → State
  | .status => { s with cmdIgnored := false, writeIgnored := false }
  | .eventTake => s.takeEvent
  | .eventLevel => { s with missed := 0 }
  | .classData => { s with classIndex := s.classIndex + 1 }
  | .conData => if s.consoleActive then s.onLine 0 Line.pop else s
  | .conStatus => if s.consoleActive then { s with txLost := false } else s
  | .ident | .control | .command | .tableBase | .doorbell | .lineCmd | .eventPeek | .coalesce | .cadence | .resweep
  | .livenessPeriod | .keepalive | .power | .classIndex | .customDivisor | .faultAddr | .faultDesc | .lineSelect
  | .lineState | .lineSetting | .lineFrame | .lineCounts => s

/-- A read of a register: the addressed bytes go to the host, with every side effect (R170). -/
def State.readRegister (s : State) (lanes : Lanes) (r : Reg) : State :=
  { s.readEffect r with busData := addressedBytes lanes (s.readWord r) }

end Sys2Proof.Machine
end

