-- ==== Sys2Proof/Machine/Power.lean ====
section
/-! DEFINITION. The Power Manager's part in a command (Chapter 11): writes of POWER, HOST_RESET in each power state,
wake edges and the end of WAKING. -/

namespace Sys2Proof.Machine

/-! ### Writes of POWER (R157) -/

/-- A REQ value is stored with AUTO_DOZE; the watch on the idle condition restarts (R157, R158). -/
def State.storeReq (s : State) (req : PowerReq) (auto : Bool) : State :=
  { s with req := req, autoDoze := auto, idleBeats := 0 }

/-- AUTO_DOZE is stored. -/
def State.storeAuto (s : State) (auto : Bool) : State := { s with autoDoze := auto, idleBeats := 0 }

/-- REQ = ACTIVE (R157). -/
def State.reqActive (s : State) (auto : Bool) : State :=
  match s.power with
  | .active | .doze => s.endDoze.storeReq .active auto
  | .standbyEntry => s.abandonStandby.storeReq .active auto
  | .standby => { s.storeAuto auto with power := .waking }
  | .waking => s.storeAuto auto

/-- REQ = DOZE (R157, R158). -/
def State.reqDoze (s : State) (auto : Bool) : State :=
  match s.power with
  | .active | .doze => (s.endDoze.storeReq .doze auto).enterRequestedDoze
  | .standbyEntry => (s.abandonStandby.storeReq .doze auto).enterRequestedDoze
  | .standby | .waking => s.refuseWrite

/-- The sequencer state permits STANDBY (R160). -/
def State.mayStandby (s : State) : Bool := s.seq == .stopped || s.seq == .paused

/-- REQ = STANDBY (R157, R160). -/
def State.reqStandby (s : State) (auto : Bool) : State :=
  match s.power with
  | .active | .doze =>
    if s.mayStandby then { s.endDoze.storeReq .standby auto with power := .standbyEntry } else s.endDoze.refuseWrite
  | .standbyEntry => s.storeAuto auto
  | .standby | .waking => s.refuseWrite

/-- REQ = 3 (R157): refused, after ending a doze. -/
def State.reqInvalid (s : State) : State := s.endDoze.refuseWrite

/-- AUTO_DOZE of a written word (Table 48). -/
def autoDozeBit (value : Word) : Bool := bitAt value 4

/-- A whole-word write of POWER (R157). -/
def State.writePower (s : State) (value : Word) : State :=
  match (value.extractLsb' 0 2).toNat with
  | 0 => s.reqActive (autoDozeBit value)
  | 1 => s.reqDoze (autoDozeBit value)
  | 2 => s.reqStandby (autoDozeBit value)
  | _ => s.reqInvalid

/-! ### HOST_RESET (R162, R163, R168) -/

/-- The HOST_RESET command: at once, or held to the end of WAKING where the clock is stopped or settling. -/
def State.commandReset (s : State) : State :=
  match s.power with
  | .standby => { s with power := .waking, resetHeld := true }
  | .waking => { s with resetHeld := true }
  | .active | .doze | .standbyEntry => s.hostReset

/-! ### Waking (R162, R163) -/

/-- The lines whose pins may wake the part: WAKE_EN latched, LOOP not. -/
def State.wakeLines (s : State) : BitVec 16 := s.wakeEn &&& ~~~s.wakeLoop

/-- Raw edges at one instant (R162): in STANDBY those of armed lines wake the part and are recorded. -/
def State.wakeEdges (s : State) (starts senses : BitVec 16) : State :=
  if s.power = .standby ∧ (starts ||| senses) &&& s.wakeLines ≠ 0 then
    { s with power := .waking, wakeStart := starts &&& s.wakeLines, wakeSense := senses &&& s.wakeLines }
  else s

/-- The end of WAKING for one line (R163): wake recovery, on the input that the receiver has, and the previous SENSE
sample is discarded. -/
def Line.wake (l : Line) : Line :=
  { l with
    receiver := { l.receiver with phase := .wakeRecover, loop := l.listens, clocks := 0, samples := [] }
    sensePrev := l.sensePrev.discard }

/-- The WAKE event of line `n`, if an edge of its woke the part (R163). -/
def State.offerWake (s : State) (n : LineNo) : State :=
  if s.wakeStart.getLsbD n.val || s.wakeSense.getLsbD n.val then
    s.offer (wakeEvent n (s.wakeStart.getLsbD n.val) (s.wakeSense.getLsbD n.val))
  else s

/-- The WAKE events, in ascending line number (R163). -/
def State.offerWakes (s : State) : State := (List.finRange 16).foldl State.offerWake s

/-- The part returns to ACTIVE, and the beat divider restarts from the beginning of a beat (R163). -/
def State.wake (s : State) : State :=
  State.offerWakes
    { s.onLines fun _ l => l.wake with power := .active, req := .active, beatClocks := 0, settleClocks := 0 }

/-- The settle period ends (R163): a held HOST_RESET is performed in place of the return to ACTIVE. -/
def State.wakingEnds (s : State) : State :=
  if s.power = .waking then if s.resetHeld then s.hostReset else s.wake else s

end Sys2Proof.Machine
end

