-- ==== Sys2Proof/Machine/Clock.lean ====
section
/-! DEFINITION. The reference clock between commands (R2, R45, R61, R121, R163): `clockTick` is one period of it, and a
count that has come to its end without its row being told is carried out before the next period (assumption log,
entry 3). -/

namespace Sys2Proof.Machine

/-! ### Counts that have come to their end -/

/-- What a row would tell is carried out untold, and its instant is over. -/
def State.untold (f : State → State) (s : State) : State := (f s).watchIdle.finishInstant

/-- The settle period has come to its end (R163). -/
def State.endSettle (s : State) : State :=
  if s.power == .waking && s.settleClocks == Config.settleClocks then s.untold State.wakingEnds else s

/-- A beat has come to its end: a beat boundary, with the SENSE pins as the last one found them (R2), unless STANDBY has
been entered at that instant (log entry 42). -/
def State.endBeat (s : State) : State :=
  if s.clockRuns && s.beatClocks == Config.clocksPerBeat then s.untold fun s => s.beat s.sensePins else s

/-- What has come on a line and no row has told: the end of what its shifter drives (R55, R56, R122), then an instant of
a looped receiver (R60), then the idle-gap timer at its limit, which a completion at the same instant restarts (R61).
That the shifter comes before the receiver is the model's choice (DESIGN CHOICE, log entry 40). -/
def Line.endCounts (s : State) (l : Line) : Line := ((l.endShifter s).hear s).checkIdleGap (s.formatOf l)

/-- What has come on every line; an entry that joins a queue or an IDLE_DUE that becomes set ends a doze (R159). -/
def State.endLines (s : State) : State :=
  if (List.finRange 16).any fun n => (s.line n).tells ((s.line n).endCounts s) then
    (s.onLines fun _ l => l.endCounts s).endDoze
  else s.onLines fun _ l => l.endCounts s

/-- What the clock has brought to its end and no row has told (log entry 3). -/
def State.endCounts (s : State) : State :=
  if s.endSettle.endBeat.clockRuns then s.endSettle.endBeat.untold State.endLines else s.endSettle.endBeat

/-! ### One period -/

/-- One reference clock period of line unit `l`: its receiver, its shifter and its idle-gap timer. -/
def Line.clock (s : State) (l : Line) : Line :=
  (l.clockReceiver.clockShifter (s.formatOf l)).clockIdle (s.formatOf l)

/-- The counts of one period of the reference clock: the beat divider and the line units advance where the clock runs,
the settle period in WAKING, and nothing in STANDBY, where the clock is stopped (R161). -/
def State.countClock (s : State) : State :=
  match s.power with
  | .active | .doze | .standbyEntry =>
    { s.onLines fun _ l => l.clock s with beatClocks := min Config.clocksPerBeat (s.beatClocks + 1) }
  | .waking => { s with settleClocks := min Config.settleClocks (s.settleClocks + 1) }
  | .standby => s

/-- One period of the reference clock (log entry 3). -/
def State.clockTick (s : State) : State := s.endCounts.countClock

/-- No command waits: the reference clock runs on by one period (log entry 3). -/
def idle (s : State) : Result := command State.clockTick s

end Sys2Proof.Machine
end

