-- ==== Sys2Proof/Machine/Window.lean ====
section
/-! DEFINITION. Writes of the register window (Chapters 2, 3, 8, 10 and 12): what a whole-word write of each register
does, behind the power-state gate (R161, R163), and the decoding of a write that no row of its own names (R170, R171,
R173). -/

namespace Sys2Proof.Machine

/-! ### COMMAND (Table 15) -/

/-- A COMMAND write other than HOST_RESET: gated, and it ends a doze before it is decoded (R25, R159). -/
def State.commanded (s : State) (f : State → State) : State := s.gated fun s => f s.endDoze

/-- START (R26). -/
def State.start (s : State) : State :=
  match s.seq with
  | .stopped | .paused => s.moveSeq .running
  | .running | .pausing | .stopping | .quiescing | .quiesced => s.refuseCommand

/-- STOP (R28). -/
def State.stop (s : State) : State :=
  match s.seq with
  | .running | .pausing => s.moveThrough .stopping .stopped
  | .paused => s.moveSeq .stopped
  | .stopped | .stopping | .quiescing | .quiesced => s.refuseCommand

/-- PAUSE (R27). -/
def State.pause (s : State) : State :=
  match s.seq with
  | .running => s.moveThrough .pausing .paused
  | .stopped | .pausing | .paused | .stopping | .quiescing | .quiesced => s.refuseCommand

/-- RESUME (R27). -/
def State.resume (s : State) : State :=
  match s.seq with
  | .pausing | .paused => s.moveSeq .running
  | .stopped | .running | .stopping | .quiescing | .quiesced => s.refuseCommand

/-- A COMMAND value by its full 32 bits (R25). -/
def State.writeCommand (s : State) (value : Word) : State :=
  match commandRow value with
  | some .start => s.commanded State.start
  | some .stop => s.commanded State.stop
  | some .pause => s.commanded State.pause
  | some .resume => s.commanded State.resume
  | some .hostReset => s.commandReset
  | _ => s.commanded State.refuseCommand

/-! ### LINE_CMD and DOORBELL (R40, R42, R44) -/

/-- CANCEL_RX (R42). -/
def State.markCancelRx (s : State) (n : LineNo) : State := s.onLine n fun l => { l with rxCancel := true }

/-- CANCEL_TX (R42). -/
def State.markCancelTx (s : State) (n : LineNo) : State := s.onLine n fun l => { l with txCancel := true }

/-- RESET_LINE (R44): held where a visit to the line is in progress, at once otherwise. Where it makes the last ACTIVE
transmit direction VACANT while a DOZE request waits, the doze-ending write comes first, as R159 has a write take its
ordinary effect after ending a doze; DOZE is then entered and stays (DESIGN CHOICE, log entry 29). -/
def State.resetLineCmd (s : State) (n : LineNo) : State :=
  match s.visit with
  | some v =>
    if v.line = n then { s with visit := some { v with resetHeld := true } }
    else (s.applyLineReset n).enterRequestedDoze
  | none => (s.applyLineReset n).enterRequestedDoze

/-- A LINE_CMD operation by bits 9:8 (Table 17). -/
def State.lineOperation (s : State) (value : Word) : State :=
  match (value.extractLsb' 8 2).toNat with
  | 1 => s.markCancelRx (lineOf value)
  | 2 => s.markCancelTx (lineOf value)
  | 3 => s.resetLineCmd (lineOf value)
  | _ => s.refuseCommand

/-- A whole-word write of LINE_CMD. -/
def State.writeLineCmd (s : State) (value : Word) : State := s.commanded fun s => s.lineOperation value

/-- A doorbell sets ATTN on the lines it names (R40). -/
def State.ring (s : State) (value : Word) : State :=
  if bitAt value 8 then s.onLines fun _ l => { l with attn := true }
  else s.onLine (lineOf value) fun l => { l with attn := true }

/-- A whole-word write of DOORBELL. -/
def State.writeDoorbell (s : State) (value : Word) : State := s.commanded fun s => s.ring value

/-! ### CONTROL and the guard (R164, R165, R175) -/

/-- The period the guard's counter is loaded with; a stored 0 acts as 1 (R164). -/
def State.guardPeriod (s : State) : Nat := if s.livenessPeriod = 0 then 1 else s.livenessPeriod.toNat

/-- The interrupt enables of a CONTROL value (Table 50). -/
def State.storeEnables (s : State) (value : Word) : State :=
  { s with
    eventIe := bitAt value 0
    tickIe := bitAt value 1
    conRxIe := bitAt value 2
    conTxIe := bitAt value 3
    alertIe := bitAt value 4 }

/-- The guard is armed (R164). -/
def State.arm (s : State) : State :=
  { s with livenessEn := true, guardCount := s.guardPeriod, guardRunning := true }

/-- A whole-word write of CONTROL (R175). -/
def State.writeControl (s : State) (value : Word) : State :=
  s.gated fun s =>
    if bitAt value 8 && !s.livenessEn then (s.storeEnables value).arm else s.storeEnables value

/-- A KEEPALIVE value that passes the gate (R165). -/
def State.key (s : State) (value : Word) : State :=
  if value = 0x3C then { s with firstKey := true }
  else if value = 0xC3 ∧ s.firstKey = true then
    { s with firstKey := false, guardCount := if s.livenessEn && s.guardRunning then s.guardPeriod else s.guardCount }
  else { s with firstKey := false }

/-- A whole-word write of KEEPALIVE. -/
def State.writeKeepalive (s : State) (value : Word) : State := s.gated fun s => s.key value

/-- A whole-word write of LIVENESS_PERIOD (R164). -/
def State.writeLivenessPeriod (s : State) (value : Word) : State :=
  s.gated fun s => if s.livenessEn then s.refuseWrite else { s with livenessPeriod := value.extractLsb' 0 16 }

/-! ### Stored registers -/

/-- The table address bits of a TABLE_BASE value (R3). -/
def tableBits (value : Word) : Word := value &&& 0xFFFFFC00

/-- A whole-word write of TABLE_BASE (R3). -/
def State.writeTableBase (s : State) (value : Word) : State :=
  s.gated fun s => if s.seq = .stopped then { s with tableBase := tableBits value } else s.refuseWrite

/-- A whole-word write of CUSTOM_DIVISOR (R46). -/
def State.writeCustomDivisor (s : State) (value : Word) : State :=
  s.gated fun s => { s with customDivisor := value.extractLsb' 0 16 }

/-- A whole-word write of CADENCE (R136). -/
def State.writeCadence (s : State) (value : Word) : State :=
  s.gated fun s => { s with cadence := value.extractLsb' 0 16, cadenceCount := 0 }

/-- A whole-word write of RESWEEP (R41, R172). -/
def State.writeResweep (s : State) (value : Word) : State :=
  s.gated fun s => { s with resweep := value.extractLsb' 0 16, resweepCount := 0 }

/-- A whole-word write of COALESCE (R141). -/
def State.writeCoalesce (s : State) (value : Word) : State :=
  s.gated fun s => { s with threshold := value.extractLsb' 0 2, ageLimit := value.extractLsb' 8 8 }

/-- A whole-word write of CLASS_INDEX (R100). -/
def State.writeClassIndex (s : State) (value : Word) : State :=
  s.gated fun s => { s with classIndex := value.extractLsb' 0 8 }

/-- A class entry is replaced (R101). -/
def State.setClass (s : State) (v b : Byte) : State := { s with classTable := s.classTable.set v.toNat b v.isLt }

/-- A whole-word write of CLASS_DATA (R100). -/
def State.writeClassData (s : State) (value : Word) : State :=
  s.gated fun s => { s.setClass s.classIndex (value.extractLsb' 0 8) with classIndex := s.classIndex + 1 }

/-- A whole-word write of LINE_SELECT (R176). -/
def State.writeLineSelect (s : State) (value : Word) : State := s.gated fun s => { s with lineSelect := lineOf value }

/-! ### LINE_SETTING and LINE_FRAME (R65) -/

/-- A line accepts a LINE_SETTING value (R65). -/
def Line.acceptsSetting (l : Line) (w : Word) : Bool :=
  settingValid w && (setFramed w == l.framed || (l.rxOrder.isNone && l.txOrder.isNone && l.drained)) &&
    !(setFramed w && l.markChar == l.escapeChar)

/-- A line accepts a LINE_FRAME value (R65). -/
def Line.acceptsFrame (l : Line) (w : Word) : Bool :=
  frameUpperZero w && !(frameMark w == frameEscape w && l.framed)

/-- A whole-word write of LINE_SETTING (R65). -/
def State.writeLineSetting (s : State) (value : Word) : State :=
  s.gated fun s =>
    if s.seq = .stopped ∧ (s.line s.lineSelect).acceptsSetting value = true then
      s.putLine s.lineSelect (Line.applySetting s (s.line s.lineSelect) value)
    else s.refuseWrite

/-- A whole-word write of LINE_FRAME (R65). -/
def State.writeLineFrame (s : State) (value : Word) : State :=
  s.gated fun s =>
    if s.seq = .stopped ∧ (s.line s.lineSelect).acceptsFrame value = true then
      s.onLine s.lineSelect fun l => l.applyFrame (frameMark value) (frameEscape value)
    else s.refuseWrite

/-! ### CON_DATA (R150, R153) -/

/-- A console byte is loaded into holding (R153). -/
def Line.loadConsole (l : Line) (b : Byte) : Line :=
  { l with holding := some { byte := b, first := false, last := false, source := .console } }

/-- A console write (R153): it loads line 0's empty holding, or is dropped. -/
def State.conWrite (s : State) (b : Byte) : State :=
  if (s.line 0).holding.isNone then s.onLine 0 fun l => Line.tend s (l.loadConsole b) else { s with txLost := true }

/-- A whole-word write of CON_DATA. -/
def State.writeConData (s : State) (value : Word) : State :=
  s.gated fun s => if s.consoleActive then s.conWrite (value.extractLsb' 0 8) else s.refuseWrite

/-! ### Any write of the window (R170, R171, R173) -/

/-- A whole-word write of a register. -/
def State.writeRegister (s : State) (r : Reg) (value : Word) : State :=
  match r with
  | .command => s.writeCommand value
  | .lineCmd => s.writeLineCmd value
  | .doorbell => s.writeDoorbell value
  | .power => s.writePower value
  | .control => s.writeControl value
  | .keepalive => s.writeKeepalive value
  | .livenessPeriod => s.writeLivenessPeriod value
  | .tableBase => s.writeTableBase value
  | .customDivisor => s.writeCustomDivisor value
  | .cadence => s.writeCadence value
  | .resweep => s.writeResweep value
  | .coalesce => s.writeCoalesce value
  | .classIndex => s.writeClassIndex value
  | .classData => s.writeClassData value
  | .lineSelect => s.writeLineSelect value
  | .lineSetting => s.writeLineSetting value
  | .lineFrame => s.writeLineFrame value
  | .conData => s.writeConData value
  | .ident | .status | .eventPeek | .eventTake | .eventLevel | .faultAddr | .faultDesc | .conStatus | .lineState
  | .lineCounts => s.refuseWrite

/-- A write of the window (R170): nothing at an offset without a register; a narrower write is ignored in full. -/
def State.writeOffset (s : State) (offset : BitVec 8) (lanes : Lanes) (value : Word) : State :=
  match regAt offset with
  | none => s
  | some r => if lanes = wholeWord then s.writeRegister r value else s.refuseWrite

end Sys2Proof.Machine
end

