-- ==== Sys2Proof/Machine/CommandMeanings.lean ====
section
/-! DEFINITION. The meanings of the host's commands: COMMAND values, the resets, LINE_CMD operations, the doorbell and
the requests of POWER. -/

namespace Sys2Proof.Machine

/-- START (R26). -/
def execStart (s : State) : Result := command (fun s => s.commanded State.start) s

/-- STOP (R28). -/
def execStop (s : State) : Result := command (fun s => s.commanded State.stop) s

/-- PAUSE (R27). -/
def execPause (s : State) : Result := command (fun s => s.commanded State.pause) s

/-- RESUME (R27). -/
def execResume (s : State) : Result := command (fun s => s.commanded State.resume) s

/-- HOST_RESET (R168). -/
def execHostReset (s : State) : Result := command State.commandReset s

/-- PIN_RESET (R168): nothing that was due outlasts it. -/
def execPinReset (s : State) : Result := .next s.pinReset

/-- CANCEL_RX (R42). -/
def execCancelRx (value : Word) (s : State) : Result :=
  command (fun s => s.commanded fun s => s.markCancelRx (lineOf value)) s

/-- CANCEL_TX (R42). -/
def execCancelTx (value : Word) (s : State) : Result :=
  command (fun s => s.commanded fun s => s.markCancelTx (lineOf value)) s

/-- RESET_LINE (R44, R169). -/
def execResetLine (value : Word) (s : State) : Result :=
  command (fun s => s.commanded fun s => s.resetLineCmd (lineOf value)) s

/-- DOORBELL (R40). -/
def execDoorbell (value : Word) (s : State) : Result := command (fun s => s.writeDoorbell value) s

/-- POWER with REQ = ACTIVE (R157). -/
def execReqActive (value : Word) (s : State) : Result := command (fun s => s.reqActive (autoDozeBit value)) s

/-- POWER with REQ = DOZE (R157, R158). -/
def execReqDoze (value : Word) (s : State) : Result := command (fun s => s.reqDoze (autoDozeBit value)) s

/-- POWER with REQ = STANDBY (R157, R160). -/
def execReqStandby (value : Word) (s : State) : Result := command (fun s => s.reqStandby (autoDozeBit value)) s

end Sys2Proof.Machine
end

