-- ==== Sys2Proof/Machine/LineMeanings.lean ====
section
/-! DEFINITION. The meanings of the instants of a line unit (Chapters 3 and 7). None occurs while the clock is stopped
or settling, and one that the line's state cannot meet changes nothing (assumption log, entry 2). -/

namespace Sys2Proof.Machine

/-- An instant of line `n`: the line changes as `f` says, unless it is frozen (R161, R163). -/
def State.atLine (s : State) (n : LineNo) (f : Line → Line) : State := if s.clockRuns then s.onLine n f else s

/-- The receiver of line `n` completes what its samples make (R49, R50). -/
def State.completeAt (s : State) (n : LineNo) (data : Byte) (parityBit stopBit : Bool) : State :=
  if s.clockRuns && (s.line n).completes then
    s.putLine n (Line.complete s (s.line n) ((s.line n).completedOf data parityBit stopBit))
  else s

/-- The idle-gap timer of line `n` reaches its limit (R61); IDLE_DUE ends a doze (R159). -/
def State.idleAt (s : State) (n : LineNo) : State :=
  if s.clockRuns && (s.line n).idleRuns then (s.onLine n Line.setIdleDue).endDoze else s

/-- COMPLETION (R49). -/
def execCompletion (line : LineNo) (data : Byte) (parityBit stopBit : Bool) (s : State) : Result :=
  command (fun s => s.completeAt line data parityBit stopBit) s

/-- BREAK (R50). -/
def execBreakSeen (line : LineNo) (s : State) : Result := command (fun s => s.completeAt line 0 false false) s

/-- RECOVER_END (R50, R163). -/
def execRecoverEnd (line : LineNo) (s : State) : Result := command (fun s => s.atLine line (Line.recoverEnds s)) s

/-- SHIFTER_EMPTY (R55, R122). -/
def execShifterEmpty (line : LineNo) (s : State) : Result := command (fun s => s.atLine line (Line.tellEmpty s)) s

/-- BREAK_DONE (R56). -/
def execBreakDone (line : LineNo) (s : State) : Result := command (fun s => s.atLine line Line.tellBreakDone) s

/-- IDLE_DUE (R61). -/
def execIdleDue (line : LineNo) (s : State) : Result := command (fun s => s.idleAt line) s

/-- FALLING_EDGE (R48). -/
def execFallingEdge (line : LineNo) (s : State) : Result := command (fun s => s.atLine line (Line.fallingEdge s)) s

/-- START_BIT_SAMPLE (R48). -/
def execStartBitSample (line : LineNo) (level : Bool) (s : State) : Result :=
  command (fun s => s.atLine line fun l => l.startSample level) s

end Sys2Proof.Machine
end

