-- ==== Sys2Proof/Machine/RegisterMeanings.lean ====
section
/-! DEFINITION. The meanings of the register writes and of the reads that have a side effect (Table 46). -/

namespace Sys2Proof.Machine

/-- CONTROL (R175). -/
def execControl (value : Word) (s : State) : Result := command (fun s => s.writeControl value) s

/-- KEEPALIVE (R165). -/
def execKeepalive (value : Word) (s : State) : Result := command (fun s => s.writeKeepalive value) s

/-- LIVENESS_PERIOD (R164). -/
def execLivenessPeriod (value : Word) (s : State) : Result := command (fun s => s.writeLivenessPeriod value) s

/-- TABLE_BASE (R3). -/
def execTableBase (value : Word) (s : State) : Result := command (fun s => s.writeTableBase value) s

/-- LINE_SETTING (R65). -/
def execLineSetting (value : Word) (s : State) : Result := command (fun s => s.writeLineSetting value) s

/-- LINE_FRAME (R65). -/
def execLineFrame (value : Word) (s : State) : Result := command (fun s => s.writeLineFrame value) s

/-- CUSTOM_DIVISOR (R46). -/
def execCustomDivisor (value : Word) (s : State) : Result := command (fun s => s.writeCustomDivisor value) s

/-- CADENCE (R136). -/
def execCadence (value : Word) (s : State) : Result := command (fun s => s.writeCadence value) s

/-- RESWEEP (R41). -/
def execResweep (value : Word) (s : State) : Result := command (fun s => s.writeResweep value) s

/-- COALESCE (R141). -/
def execCoalesce (value : Word) (s : State) : Result := command (fun s => s.writeCoalesce value) s

/-- CLASS_DATA_WRITE (R100). -/
def execClassDataWrite (value : Word) (s : State) : Result := command (fun s => s.writeClassData value) s

/-- CLASS_DATA_READ (R100). -/
def execClassDataRead (lanes : Lanes) (s : State) : Result := command (fun s => s.readRegister lanes .classData) s

/-- CON_DATA_WRITE (R153). -/
def execConDataWrite (value : Word) (s : State) : Result := command (fun s => s.writeConData value) s

/-- CON_DATA_READ (R152). -/
def execConDataRead (lanes : Lanes) (s : State) : Result := command (fun s => s.readRegister lanes .conData) s

/-- CON_STATUS (R151). -/
def execConStatus (lanes : Lanes) (s : State) : Result := command (fun s => s.readRegister lanes .conStatus) s

/-- EVENT_TAKE (R135). -/
def execEventTake (lanes : Lanes) (s : State) : Result := command (fun s => s.readRegister lanes .eventTake) s

/-- EVENT_LEVEL (R137). -/
def execEventLevel (lanes : Lanes) (s : State) : Result := command (fun s => s.readRegister lanes .eventLevel) s

/-- STATUS (R173, R174). -/
def execStatus (lanes : Lanes) (s : State) : Result := command (fun s => s.readRegister lanes .status) s

/-- REGISTER_WRITE (R170, R171). -/
def execRegisterWrite (offset : BitVec 8) (lanes : Lanes) (value : Word) (s : State) : Result :=
  command (fun s => s.writeOffset offset lanes value) s

end Sys2Proof.Machine
end

