-- ==== Sys2Proof/Machine/SequencerMeanings.lean ====
section
/-! DEFINITION. The meanings of the sequencer's own steps: a visit, the four kinds of answer, and the timeout. -/

namespace Sys2Proof.Machine

/-- VISIT once the expiries of the instant but the resweep are carried out. A line that needs service without the
resweep and the SENSE levels that fall at this instant is visited first: its snapshot and its STATUS step stand before
both (R32, R36), and the resweep stays due. Otherwise the sequencer rests, and they may give it a line to visit (R34; log
entry 30). -/
def visitNow (s : State) : State :=
  match s.firstLine Line.neededService with
  | some n => if s.mayVisit then beginVisit s.watchIdle n else nextVisit s.finishInstant
  | none => nextVisit s.finishInstant

/-- VISIT (R32, R34). -/
def execVisit (s : State) : Result := expiry (fun s => visitNow s.finishGuard) s

/-- WORD_READ (R11, R143). -/
def execWordRead (txn : Nat) (answer : WordAnswer) (s : State) : Result :=
  answered txn (fun s => answerWordRead s txn answer) s

/-- WORD_WRITE (R16, R143). -/
def execWordWrite (txn : Nat) (answer : WriteAnswer) (s : State) : Result :=
  answered txn (fun s => answerWordWrite s txn answer) s

/-- BYTE_WRITE (R71, R143). -/
def execByteWrite (txn : Nat) (answer : WriteAnswer) (s : State) : Result :=
  answered txn (fun s => answerByteWrite s txn answer) s

/-- BYTE_READ (R87, R143). -/
def execByteRead (txn : Nat) (answer : ByteAnswer) (s : State) : Result :=
  answered txn (fun s => answerByteRead s txn answer) s

/-- TIMEOUT (R143). -/
def execTimeout (s : State) : Result := expiry State.finishVisit s

end Sys2Proof.Machine
end

