-- ==== Sys2Proof/Machine/TimeMeanings.lean ====
section
/-! DEFINITION. The meanings of the instants of the timebase and the power manager. -/

namespace Sys2Proof.Machine

/-- BEAT_BOUNDARY (R2). Where a row before it at its instant lets STANDBY be entered, STANDBY comes first and no boundary
occurs, so the guard does not expire at it (R160, R166; DESIGN CHOICE, log entry 42). -/
def execBeatBoundary (sense : BitVec 16) (s : State) : Result := command (fun s => s.beat sense) s

/-- RESWEEP_EXPIRY (R41). -/
def execResweepExpiry (s : State) : Result := expiry State.expireResweep s

/-- TICK (R136, R137). -/
def execTick (s : State) : Result := expiry State.expireTick s

/-- HOLD_DUE (R62). -/
def execHoldDue (line : LineNo) (s : State) : Result := expiry (fun s => s.expireHold line) s

/-- GUARD_EXPIRY (R166): a visit that ends at the instant ends first. -/
def execGuardExpiry (s : State) : Result := expiry (fun s => s.finishVisit.expireGuard) s

/-- AUTOMATIC_DOZE (R158). -/
def execAutomaticDoze (s : State) : Result := expiry (fun s => s.finishTimers.enterAutoDoze) s

/-- STANDBY (R160, R161). -/
def execStandby (s : State) : Result := expiry State.finishInstant s

/-- WAKE_EDGE (R162). -/
def execWakeEdge (starts senses : BitVec 16) (s : State) : Result := command (fun s => s.wakeEdges starts senses) s

/-- WAKING_END (R163). -/
def execWakingEnd (s : State) : Result := command State.wakingEnds s

end Sys2Proof.Machine
end

