-- ==== Sys2Proof/Machine/Dispatch.lean ====
section
/-! DEFINITION. The meaning of each command: one arm per constructor of `Instr`, each one call of its meaning. -/

namespace Sys2Proof.Machine

def exec (i : Instr) (s : State) : Host.Outcome State Fault Refusal :=
  match i with
  | .start => Sys2Proof.Machine.execStart s
  | .stop => Sys2Proof.Machine.execStop s
  | .pause => Sys2Proof.Machine.execPause s
  | .resume => Sys2Proof.Machine.execResume s
  | .hostReset => Sys2Proof.Machine.execHostReset s
  | .pinReset => Sys2Proof.Machine.execPinReset s
  | .cancelRx value => Sys2Proof.Machine.execCancelRx value s
  | .cancelTx value => Sys2Proof.Machine.execCancelTx value s
  | .resetLine value => Sys2Proof.Machine.execResetLine value s
  | .doorbell value => Sys2Proof.Machine.execDoorbell value s
  | .reqActive value => Sys2Proof.Machine.execReqActive value s
  | .reqDoze value => Sys2Proof.Machine.execReqDoze value s
  | .reqStandby value => Sys2Proof.Machine.execReqStandby value s
  | .control value => Sys2Proof.Machine.execControl value s
  | .keepalive value => Sys2Proof.Machine.execKeepalive value s
  | .livenessPeriod value => Sys2Proof.Machine.execLivenessPeriod value s
  | .tableBase value => Sys2Proof.Machine.execTableBase value s
  | .lineSetting value => Sys2Proof.Machine.execLineSetting value s
  | .lineFrame value => Sys2Proof.Machine.execLineFrame value s
  | .customDivisor value => Sys2Proof.Machine.execCustomDivisor value s
  | .cadence value => Sys2Proof.Machine.execCadence value s
  | .resweep value => Sys2Proof.Machine.execResweep value s
  | .coalesce value => Sys2Proof.Machine.execCoalesce value s
  | .classDataWrite value => Sys2Proof.Machine.execClassDataWrite value s
  | .classDataRead lanes => Sys2Proof.Machine.execClassDataRead lanes s
  | .conDataWrite value => Sys2Proof.Machine.execConDataWrite value s
  | .conDataRead lanes => Sys2Proof.Machine.execConDataRead lanes s
  | .conStatus lanes => Sys2Proof.Machine.execConStatus lanes s
  | .eventTake lanes => Sys2Proof.Machine.execEventTake lanes s
  | .eventLevel lanes => Sys2Proof.Machine.execEventLevel lanes s
  | .status lanes => Sys2Proof.Machine.execStatus lanes s
  | .registerWrite offset lanes value => Sys2Proof.Machine.execRegisterWrite offset lanes value s
  | .visit => Sys2Proof.Machine.execVisit s
  | .wordRead txn answer => Sys2Proof.Machine.execWordRead txn answer s
  | .wordWrite txn answer => Sys2Proof.Machine.execWordWrite txn answer s
  | .byteWrite txn answer => Sys2Proof.Machine.execByteWrite txn answer s
  | .byteRead txn answer => Sys2Proof.Machine.execByteRead txn answer s
  | .timeout => Sys2Proof.Machine.execTimeout s
  | .completion line data parityBit stopBit => Sys2Proof.Machine.execCompletion line data parityBit stopBit s
  | .breakSeen line => Sys2Proof.Machine.execBreakSeen line s
  | .recoverEnd line => Sys2Proof.Machine.execRecoverEnd line s
  | .shifterEmpty line => Sys2Proof.Machine.execShifterEmpty line s
  | .breakDone line => Sys2Proof.Machine.execBreakDone line s
  | .beatBoundary sense => Sys2Proof.Machine.execBeatBoundary sense s
  | .resweepExpiry => Sys2Proof.Machine.execResweepExpiry s
  | .tick => Sys2Proof.Machine.execTick s
  | .holdDue line => Sys2Proof.Machine.execHoldDue line s
  | .idleDue line => Sys2Proof.Machine.execIdleDue line s
  | .guardExpiry => Sys2Proof.Machine.execGuardExpiry s
  | .automaticDoze => Sys2Proof.Machine.execAutomaticDoze s
  | .standby => Sys2Proof.Machine.execStandby s
  | .wakeEdge starts senses => Sys2Proof.Machine.execWakeEdge starts senses s
  | .wakingEnd => Sys2Proof.Machine.execWakingEnd s
  | .fallingEdge line => Sys2Proof.Machine.execFallingEdge line s
  | .startBitSample line level => Sys2Proof.Machine.execStartBitSample line level s

end Sys2Proof.Machine
end

