-- ==== Sys2Proof/WellFormed.lean ====
section
/-! DEFINITION. Which terms of `Instr` name a command of the table: the written value of a LINE_CMD or POWER row must
spell that row, an access must address at least one byte, and REGISTER_WRITE must be at a word-aligned offset and be a
write that no other row is. The meanings do not rest on it: every term of `Instr` has one. -/

namespace Sys2Proof

/-- The read addresses at least one byte (R170). -/
def lanesOk (lanes : Lanes) : Bool := lanes ≠ 0

/-- The command is one the table's row describes. -/
def Instr.wellFormed : Instr → Bool
  | .cancelRx v => lineCmdRow v = some (.cancelRx v)
  | .cancelTx v => lineCmdRow v = some (.cancelTx v)
  | .resetLine v => lineCmdRow v = some (.resetLine v)
  | .reqActive v => powerRow v = some (.reqActive v)
  | .reqDoze v => powerRow v = some (.reqDoze v)
  | .reqStandby v => powerRow v = some (.reqStandby v)
  | .classDataRead lanes | .conDataRead lanes | .conStatus lanes | .eventTake lanes | .eventLevel lanes
  | .status lanes => lanesOk lanes
  | .registerWrite offset lanes v =>
    lanesOk lanes && offset.extractLsb' 0 2 == 0#2 && decodeWrite offset lanes v == .registerWrite offset lanes v
  | .start | .stop | .pause | .resume | .hostReset | .pinReset | .doorbell _ | .control _ | .keepalive _
  | .livenessPeriod _ | .tableBase _ | .lineSetting _ | .lineFrame _ | .customDivisor _ | .cadence _ | .resweep _
  | .coalesce _ | .classDataWrite _ | .conDataWrite _ | .visit | .wordRead _ _ | .wordWrite _ _ | .byteWrite _ _
  | .byteRead _ _ | .timeout | .completion _ _ _ _ | .breakSeen _ | .recoverEnd _ | .shifterEmpty _ | .breakDone _
  | .beatBoundary _ | .resweepExpiry | .tick | .holdDue _ | .idleDue _ | .guardExpiry | .automaticDoze | .standby
  | .wakeEdge _ _ | .wakingEnd | .fallingEdge _ | .startBitSample _ _ => true

end Sys2Proof
end

