-- ==== Sys2Proof/Safety.lean ====
section
/-! DEFINITION. What the claims speak of: a command that completes, a state unchanged but for the idle watch, and the
invariants that the manual's rules give the part. -/

namespace Sys2Proof

/-- The commands that carry out by themselves what is due at a beat boundary; VISIT and the answers, which have an order
of their own for it (R32, R143); and the pin reset. -/
def Instr.isExpiry : Instr → Bool
  | .timeout | .tick | .resweepExpiry | .holdDue _ | .guardExpiry | .automaticDoze | .standby | .pinReset
  | .visit | .wordRead _ _ | .wordWrite _ _ | .byteWrite _ _ | .byteRead _ _ => true
  | .start | .stop | .pause | .resume | .hostReset | .cancelRx _ | .cancelTx _ | .resetLine _ | .doorbell _
  | .reqActive _ | .reqDoze _ | .reqStandby _ | .control _ | .keepalive _ | .livenessPeriod _ | .tableBase _
  | .lineSetting _ | .lineFrame _ | .customDivisor _ | .cadence _ | .resweep _ | .coalesce _ | .classDataWrite _
  | .classDataRead _ | .conDataWrite _ | .conDataRead _ | .conStatus _ | .eventTake _ | .eventLevel _ | .status _
  | .registerWrite _ _ _ | .completion _ _ _ _ | .breakSeen _ | .recoverEnd _ | .shifterEmpty _ | .breakDone _
  | .beatBoundary _ | .idleDue _ | .wakeEdge _ _ | .wakingEnd | .fallingEdge _ | .startBitSample _ _ => false

/-- The writes that STANDBY and WAKING refuse whatever their value (Table 45): every row of its own that is a register
write but the POWER rows and HOST_RESET. -/
def Instr.gatedWrite : Instr → Bool
  | .start | .stop | .pause | .resume | .cancelRx _ | .cancelTx _ | .resetLine _ | .doorbell _ | .control _
  | .keepalive _ | .livenessPeriod _ | .tableBase _ | .lineSetting _ | .lineFrame _ | .customDivisor _ | .cadence _
  | .resweep _ | .coalesce _ | .classDataWrite _ | .conDataWrite _ => true
  | .hostReset | .pinReset | .reqActive _ | .reqDoze _ | .reqStandby _ | .classDataRead _ | .conDataRead _
  | .conStatus _ | .eventTake _ | .eventLevel _ | .status _ | .registerWrite _ _ _ | .visit | .wordRead _ _
  | .wordWrite _ _ | .byteWrite _ _ | .byteRead _ _ | .timeout | .completion _ _ _ _ | .breakSeen _ | .recoverEnd _
  | .shifterEmpty _ | .breakDone _ | .beatBoundary _ | .resweepExpiry | .tick | .holdDue _ | .idleDue _ | .guardExpiry
  | .automaticDoze | .standby | .wakeEdge _ _ | .wakingEnd | .fallingEdge _ | .startBitSample _ _ => false

/-- The commands that cannot change CONTROL or LIVENESS_PERIOD: every one but the writes of the two registers and what
may perform a reset (R164, R175). -/
def Instr.leavesControl : Instr → Bool
  | .control _ | .livenessPeriod _ | .registerWrite _ _ _ | .hostReset | .pinReset | .wakingEnd => false
  | .start | .stop | .pause | .resume | .cancelRx _ | .cancelTx _ | .resetLine _ | .doorbell _ | .reqActive _
  | .reqDoze _ | .reqStandby _ | .keepalive _ | .tableBase _ | .lineSetting _ | .lineFrame _ | .customDivisor _
  | .cadence _ | .resweep _ | .coalesce _ | .classDataWrite _ | .classDataRead _ | .conDataWrite _ | .conDataRead _
  | .conStatus _ | .eventTake _ | .eventLevel _ | .status _ | .visit | .wordRead _ _ | .wordWrite _ _ | .byteWrite _ _
  | .byteRead _ _ | .timeout | .completion _ _ _ _ | .breakSeen _ | .recoverEnd _ | .shifterEmpty _ | .breakDone _
  | .beatBoundary _ | .resweepExpiry | .tick | .holdDue _ | .idleDue _ | .guardExpiry | .automaticDoze | .standby
  | .wakeEdge _ _ | .fallingEdge _ | .startBitSample _ _ => true

end Sys2Proof

namespace Sys2Proof.Machine

/-- The step answers a next state. -/
def Completes (r : Result) : Prop := ∃ t, r = .next t

/-- `t` is `u`, except that the count of the idle watch may have restarted (R158). -/
def State.agrees (t u : State) : Prop :=
  t = { u with idleBeats := t.idleBeats } ∧ (t.idleBeats = u.idleBeats ∨ t.idleBeats = 0)

/-- `r` is the next state `u`, except that the count of the idle watch may have restarted (R158). -/
def Leads (r : Result) (u : State) : Prop := ∃ t, r = .next t ∧ t.agrees u

/-- Nothing is due, and the register window takes writes: the power state is ACTIVE, DOZE or STANDBY_ENTRY. -/
def State.open (s : State) : Bool := s.settled && !s.windowShut

/-- The transmitter of a line has nothing to start and its hold timer follows its conditions: the line as every step
leaves it. -/
def Line.atRest (s : State) (l : Line) : Prop := Line.tend s l = l

/-- No timer is due: hold limits, the memory timeout, the cadence, the resweep and the guard. -/
def State.timersSettled (s : State) : Bool :=
  !s.holdsDue && !s.timeoutDue && !s.tickDue && !s.resweepDue && !s.guardDue

/-- How many lines the round robin passes before line `n` (R34). -/
def State.rank (s : State) (n : LineNo) : Nat := (n.val + 31 - s.position.val) % 16

/-- The next visit is to line `n`: the sequencer may choose, and `n` is the first line from the round-robin position
that needs service (R34). -/
def State.picks (s : State) (n : LineNo) : Prop :=
  s.seq = .running ∧ s.power = .active ∧ s.visit = none ∧ (s.line n).needsService = true ∧
    ∀ m, (s.line m).needsService = true → s.rank n ≤ s.rank m

/-- The next visit is to line `n`, whatever a resweep or a SENSE level at this very instant brings: the first line that
needs service without them (R32, R34, R36). -/
def State.picksNow (s : State) (n : LineNo) : Prop :=
  s.seq = .running ∧ s.power = .active ∧ s.visit = none ∧ (s.line n).neededService = true ∧
    ∀ m, (s.line m).neededService = true → s.rank n ≤ s.rank m

/-- Nothing stands before an answer to the transaction `t`: nothing is due, or `t` has been outstanding over a beat
boundary, whose instant then lasts as long as anything of it is due (R143), and no hold timer is due. -/
def State.awaits (s : State) (t : Txn) : Bool := s.settled || (t.beats != 0 && !s.holdsDue)

/-- A visit in progress that is to end plainly: no RESET_LINE is held, the sequencer is RUNNING, PAUSING or STOPPING in
ACTIVE, and no doze is requested. -/
def State.plainVisit (s : State) (v : Visit) : Prop :=
  s.visit = some v ∧ v.resetHeld = false ∧ (s.seq = .running ∨ s.seq = .pausing ∨ s.seq = .stopping) ∧
    s.power = .active ∧ s.req ≠ .doze

/-- The sequencer state after a visit that ends plainly (R29). -/
def SeqState.afterVisit : SeqState → SeqState
  | .pausing => .paused
  | .stopping => .stopped
  | q => q

/-- The shifter as a character starts on the line now, with what follows it in the sequence (R55, R60, R63). -/
def Line.starting (l : Line) (what : Sending) (c : Byte) (rest : List Piece) (f : Format) : Shifter :=
  .sending
    { what := what, char := c, rest := rest, clocks := 0, format := f, loop := setLoop l.setting }

/-- The characters the shifter sends from the one now on the line on, `n` further ones at most, and the line when the
last of them is on the line: each next one starts as the clock starts it (R121). -/
def Line.drain : Nat → Line → List Byte × Line
  | 0, l =>
    match l.shifter with
    | .sending t => ([t.char], l)
    | .empty | .brk _ _ _ _ | .brkMark _ _ _ => ([], l)
  | n + 1, l =>
    match l.shifter with
    | .sending t =>
      if t.rest = [] then ([t.char], l)
      else (t.char :: (Line.drain n (l.sendPieces t.what t.format t.rest)).1,
        (Line.drain n (l.sendPieces t.what t.format t.rest)).2)
    | .empty | .brk _ _ _ _ | .brkMark _ _ _ => ([], l)

/-- The characters the shifter sends for the payload bytes of a frame, each entering it when the one before it has gone
out (R121): an expanded sequence has at most eight characters. -/
def Line.framesOut (l : Line) (f : Format) : List Holding → List Byte
  | [] => []
  | h :: rest => (Line.drain 8 (l.sendPayload f h)).1 ++ (Line.drain 8 (l.sendPayload f h)).2.framesOut f rest

/-- The holding bytes of a frame's payload: the first marked FIRST, the last marked LAST (R126). -/
def payloadHoldings : Bool → List Byte → List Holding
  | _, [] => []
  | first, [b] => [{ byte := b, first := first, last := true, source := .order }]
  | first, b :: rest => { byte := b, first := first, last := false, source := .order } :: payloadHoldings false rest

/-- The visit waits for a buffer byte (Table 40). -/
def VisitPoint.isBuffer : VisitPoint → Bool
  | .storeByte _ | .loadByte => true
  | .fetchOrder _ _ | .fetchAddress _ _ | .fetchLength _ _ _ | .fetchSetting _ | .fetchFrame _ _ | .writeLength _ _
  | .writeOrder _ _ => false

/-! ### The commands of Table 15 -/

/-- The four commands that move the sequencer. -/
inductive SeqCommand where
  | start | stop | pause | resume
  deriving DecidableEq, Repr

/-- The row of the table that a command of Table 15 is. -/
def SeqCommand.instr : SeqCommand → Instr
  | .start => .start
  | .stop => .stop
  | .pause => .pause
  | .resume => .resume

/-- Table 15, with a transitional state entered only while a visit is in progress (R24): `none` where the command is
ignored. -/
def table15 (c : SeqCommand) (q : SeqState) (visiting : Bool) : Option SeqState :=
  match c, q with
  | .start, .stopped | .start, .paused => some .running
  | .stop, .running | .stop, .pausing => some (if visiting then .stopping else .stopped)
  | .stop, .paused => some .stopped
  | .pause, .running => some (if visiting then .pausing else .paused)
  | .resume, .pausing | .resume, .paused => some .running
  | .start, .running | .start, .pausing | .start, .stopping | .start, .quiescing | .start, .quiesced => none
  | .stop, .stopped | .stop, .stopping | .stop, .quiescing | .stop, .quiesced => none
  | .pause, .stopped | .pause, .pausing | .pause, .paused | .pause, .stopping | .pause, .quiescing
  | .pause, .quiesced => none
  | .resume, .stopped | .resume, .running | .resume, .stopping | .resume, .quiescing | .resume, .quiesced => none

/-- A move to this sequencer state leaves a standby entry standing (R160). -/
def SeqState.keepsEntry : SeqState → Bool
  | .stopped | .paused => true
  | .running | .pausing | .stopping | .quiescing | .quiesced => false

/-! ### The event port (R127, R128, R137, R138) -/

/-- The event queue holds at most 32 records, OVERFLOW only while it is full, LOST counts exactly while OVERFLOW is
set, MISSED and the ages saturate, and the head record is the oldest. -/
abbrev State.portOk (s : State) : Prop :=
  s.events.length ≤ Config.eventCapacity ∧
    (s.overflow = true → s.events.length = Config.eventCapacity) ∧
    (s.overflow = true ↔ 0 < s.lost) ∧
    s.lost ≤ 65535 ∧ s.missed ≤ 15 ∧
    (∀ e ∈ s.events, e.age ≤ 255) ∧
    s.events.Pairwise fun a b => b.age ≤ a.age

/-! ### The line units (R52, R57, R103, R107, R108, R114, R116) -/

/-- An entry that the line's framing admits: no FRAME_END on an asynchronous line; on a framed line no BREAK, and DATA
without flags and classes (R53, R107, R112, R115). -/
def Entry.fits (framed : Bool) : Entry → Bool
  | .data _ parity framing overrun classes => !framed || (!parity && !framing && !overrun && classes == 0)
  | .brk _ => !framed
  | .frameEnd _ => framed

/-- The pacing flag agrees with the queue count (R108). -/
def Line.pacingOk (l : Line) : Bool :=
  (!decide (6 ≤ l.queue.length) || !l.pacing) && (!decide (l.queue.length ≤ 2) || l.pacing)

/-- The tail pair holds what the frame byte count says (R114). -/
def Line.tailOk (l : Line) : Bool :=
  match l.frameRx with
  | .collect | .escaped => l.tail.length == min 2 l.frameBytes
  | .hunt | .discard _ => l.tail.isEmpty

/-- A piece that is sent as it is: no part of a frame's own structure. -/
def Piece.isPlain : Piece → Bool
  | .plain _ => true
  | .opening | .payload _ | .crcHigh | .crcLow | .closing => false

/-- The transmit framing phase is one that Table 31 gives for what the shifter holds, and what is left to send belongs
to it: nothing behind a raw character, and no part of a frame behind the first character of an abort pair. -/
def Line.phaseOk (l : Line) : Bool :=
  match l.shifter with
  | .sending t =>
    match t.what with
    | .character => t.rest.isEmpty && (l.txPhase == .idle || l.txPhase == .payload)
    | .frame _ => l.txPhase != .idle && l.txPhase != .abort
    | .abortPair => t.rest.all Piece.isPlain && l.txPhase == .abort
  | .empty | .brk _ _ _ _ | .brkMark _ _ _ => l.txPhase == .idle || l.txPhase == .payload

/-- A level accepted at the last beat boundary is counted and pending (R57). -/
def Line.countOk (l : Line) : Bool :=
  match l.countBefore with
  | some c => l.statusPending && l.changeCount == min 255 (c + 1)
  | none => true

/-- What every line unit keeps. -/
abbrev Line.unitOk (l : Line) : Prop :=
  l.queue.length ≤ Config.queueCapacity ∧
    (∀ e ∈ l.queue, e.fits l.framed = true) ∧
    l.pacingOk = true ∧ l.tailOk = true ∧ l.frameBytes ≤ 3 ∧
    (l.framed = true ∨ setInband l.setting = false → l.inbandHold = false) ∧
    l.changeCount ≤ 255 ∧ (l.statusPending = true ↔ 0 < l.changeCount) ∧
    l.framesDropped ≤ 255 ∧
    (l.ownByte = true → l.holding.isSome = true) ∧
    (l.idleStarted = true → l.idleDue = false) ∧
    l.phaseOk = true ∧ l.countOk = true

/-- What every line unit keeps, on every line. -/
abbrev State.unitsOk (s : State) : Prop := ∀ n : LineNo, (s.line n).unitOk

/-! ### The timebase and the plain registers (R3, R41, R136, R144, R164) -/

/-- The counts stay within their periods, a running guard is armed, and reserved bits read as 0. -/
abbrev State.timersOk (s : State) : Prop :=
  s.beatClocks ≤ Config.clocksPerBeat ∧ s.settleClocks ≤ Config.settleClocks ∧
    s.cadenceCount ≤ s.cadence.toNat ∧ s.resweepCount ≤ s.resweep.toNat ∧
    s.guardCount ≤ s.guardPeriod ∧
    (s.livenessEn = false → s.guardCount = 0 ∧ s.guardRunning = false) ∧
    (s.alertLiveness = true → s.livenessEn = true ∧ s.guardRunning = false) ∧
    s.idleBeats ≤ 2 ∧ s.faultDesc.count ≤ 255 ∧
    (s.faultDesc.count = 0 ↔ s.faultDesc.cause = none) ∧
    s.tableBase &&& 0x3FF = 0

/-! ### The sequencer, the memory engine and the power state (R24, R29, R142, R158, R160) -/

/-- A transitional sequencer state (Table 14). -/
def SeqState.transitional : SeqState → Bool
  | .pausing | .stopping | .quiescing => true
  | .stopped | .running | .paused | .quiesced => false

/-- A state in which a visit may be in progress (R24). -/
def SeqState.mayVisit : SeqState → Bool
  | .running | .pausing | .stopping | .quiescing => true
  | .stopped | .paused | .quiesced => false

/-- A visit's transaction is one that its point waits for (Table 38, Table 40). -/
def VisitPoint.matches (p : VisitPoint) (t : Txn) : Bool :=
  match p, t.request with
  | .fetchOrder d _, .wordRead => t.access == orderAccess d
  | .fetchAddress d _, .wordRead => t.access == parameterAccess d
  | .fetchLength d _ _, .wordRead => t.access == parameterAccess d
  | .fetchSetting _, .wordRead => t.access == .txParameterFetch
  | .fetchFrame _ _, .wordRead => t.access == .txParameterFetch
  | .storeByte _, .byteWrite _ => t.access == .rxBuffer
  | .loadByte, .byteRead => t.access == .txBuffer
  | .writeLength d _, .wordWrite _ => t.access == writebackAccess d
  | .writeOrder d o, .wordWrite w => t.access == writebackAccess d && w == o
  | _, _ => false

/-- The visit in progress and the outstanding transaction belong together. -/
def visitOk (v : Option Visit) (m : Option Txn) (txnCount : Nat) : Bool :=
  match v, m with
  | none, none => true
  | some v, some t => t.line == v.line && v.point.matches t && decide (t.tag < txnCount) && decide (t.beats ≤ 2)
  | none, some _ | some _, none => false

/-- The power state is one of STANDBY_ENTRY, STANDBY and WAKING. -/
def PowerState.standing : PowerState → Bool
  | .standbyEntry | .standby | .waking => true
  | .active | .doze => false

/-- The sequencer, the memory engine and the power manager agree with each other. -/
abbrev State.controlOk (s : State) : Prop :=
  visitOk s.visit s.mem s.txnCount = true ∧
    (s.visit.isSome = true → s.seq.mayVisit = true ∧ s.power = .active) ∧
    (s.seq.transitional = true → s.visit.isSome = true) ∧
    (s.quiet = true → s.alertLiveness = true) ∧
    (s.windowShut = true → s.guardDue = false) ∧
    (s.power.standing = true ↔ s.req = .standby) ∧
    (s.power.standing = true → s.seq = .stopped ∨ s.seq = .paused) ∧
    (s.power = .doze → s.anyTxActive = false) ∧
    (∀ n : LineNo, (s.line n).faulted = true →
      (s.line n).rxOrder = none ∧ (s.line n).txOrder = none ∧ ∀ v, s.visit = some v → v.line ≠ n)

end Sys2Proof.Machine
end

