-- ==== Sys2Proof/Certificates/Slice0/Obligations.lean ====
section
/-! DEFINITION. The statements for the provers. Some of their words are the model's form and not the manual's: `settled`
(nothing that fell due at a beat boundary waits to be carried out) and `pending` belong to the queue of commands (log
entry 1), a step on an empty queue is one period of the reference clock (entry 3), `txnCount` and `tag` number the
transactions (entry 4), `busData` holds what a read returned (entry 5), in the byte order `addressedBytes` gives a
register's bytes (entry 39), `awaits` says that nothing stands before an
answer and `picksNow` which line a VISIT at the instant of a boundary takes (entries 1 and 30), `plainVisit` and `atRest`
name what every step leaves behind, and an instant that the state cannot meet changes nothing (entry 2). `Leads` leaves
open whether the idle watch restarted its count (entry 22). -/

open Sys2Proof Sys2Proof.Machine

/-! ### Steps -/

/-- A step takes the command at the front of the queue and runs it with the queue's rest. On an empty queue one period
of the reference clock passes (the model's choice, log entry 3): the beat divider and the line units advance where the
clock runs, the settle period in WAKING, and nothing in STANDBY. A beat, and a settle period, that has come to its end
without its row is ended first, as its row would end it. -/
def Obligations.StepRunsTheFrontCommand : Prop :=
  (∀ (c : Instr) (rest : List Instr) (s : State), step (s.withPending (c :: rest)) = exec c (s.withPending rest)) ∧
    ∀ s : State, s.pending = [] → s.settled = true →
      (s.windowShut = false → s.beatClocks ≠ 7200 →
        (∀ n : LineNo, (s.line n).sentOut = false ∧ (s.line n).instantDue s = false ∧
          (s.line n).idleEnded (s.formatOf (s.line n)) = false) →
        ∃ t, step s = .next t ∧ t.agrees { s with beatClocks := min 7200 (s.beatClocks + 1), lines := t.lines } ∧
          ∀ n : LineNo, t.line n =
            { s.line n with
              receiver :=
                { (s.line n).receiver with
                  clocks := (t.line n).receiver.clocks
                  before := (t.line n).receiver.before
                  samples := (t.line n).receiver.samples }
              shifter := (t.line n).shifter
              txPhase := (t.line n).txPhase
              txCrc := (t.line n).txCrc
              idleBits := (t.line n).idleBits
              idleClocks := (t.line n).idleClocks }) ∧
      (s.windowShut = false → s.beatClocks = 7200 →
        ∃ u, exec (.beatBoundary s.sensePins) s = .next u ∧ step s = step u) ∧
      (s.power = .waking → s.settleClocks ≠ 2048 →
        Leads (step s) { s with settleClocks := min 2048 (s.settleClocks + 1) }) ∧
      (s.power = .waking → s.settleClocks = 2048 → ∃ u, exec .wakingEnd s = .next u ∧ step s = step u) ∧
      (s.power = .standby → Leads (step s) s)

/-- Every command answers a next state, and none adds to, takes from or reorders the commands that wait. -/
def Obligations.CommandsCompleteAndLeaveTheQueue : Prop :=
  ∀ (c : Instr) (s : State), ∃ t, exec c s = .next t ∧ t.pending = s.pending

/-- What is due at a beat boundary comes before any command that follows it. An answer to a transaction that has been
outstanding over a beat boundary comes before the timeout and what follows it, after the hold limits only, and any
other answer after all. A VISIT that finds a line to visit without the resweep and the SENSE levels of that instant
leaves both standing after it; one that finds none carries out everything and then chooses again (the model's choice,
log entries 1 and 30). BEAT_BOUNDARY finds an entry into STANDBY made that fell due before it at its instant (the
model's choice, log entry 42). -/
def Obligations.DueEventsComeFirst : Prop :=
  (∀ s : State, s.finishInstant.settled = true) ∧
    (∀ (c : Instr) (s : State), c.isExpiry = false → exec c s = exec c s.finishInstant) ∧
    (∀ (tag : Nat) (s : State),
      let outlasts : Prop := s.visit.isSome = true ∧ ∃ t, s.mem = some t ∧ t.tag = tag ∧ t.beats ≠ 0
      let u := s.beforeAnswer tag
      (outlasts → u = s.expireHolds) ∧ (¬outlasts → u = s.finishInstant) ∧
        (∀ a, exec (.wordRead tag a) s = .next (answerWordRead u tag a).watchIdle) ∧
        (∀ a, exec (.wordWrite tag a) s = .next (answerWordWrite u tag a).watchIdle) ∧
        (∀ a, exec (.byteWrite tag a) s = .next (answerByteWrite u tag a).watchIdle) ∧
        ∀ a, exec (.byteRead tag a) s = .next (answerByteRead u tag a).watchIdle) ∧
    ∀ s : State,
      let u := s.finishGuard
      exec .visit s = exec .visit u ∧
        (u.seq ≠ .running ∨ u.power ≠ .active ∨ u.visit.isSome = true ∨
            (∀ n : LineNo, (u.line n).neededService = false) →
          exec .visit s = exec .visit s.finishInstant)

/-! ### Reset -/

/-- The state after reset has every invariant. -/
def Obligations.ResetMeetsEveryInvariant : Prop :=
  State.reset.portOk ∧ State.reset.unitsOk ∧ State.reset.timersOk ∧ State.reset.controlOk

/-- The registers read as Table 44 gives them after a pin reset. -/
def Obligations.ResetReadsAsTheRegisterMap : Prop :=
  (∀ r : Reg, State.reset.readWord r =
    match r with
    | .ident => 0x4D500116
    | .status => 0x00080000
    | .classData => 0x00000001
    | .customDivisor => 0x00000030
    | .conStatus => 0x00008300
    | .lineSetting => 0x00000035
    | .lineFrame => 0x0000A5A6
    | .control | .command | .tableBase | .doorbell | .lineCmd | .eventPeek | .eventTake | .eventLevel | .coalesce
    | .cadence | .resweep | .livenessPeriod | .keepalive | .power | .classIndex | .faultAddr | .faultDesc | .conData
    | .lineSelect | .lineState | .lineCounts => 0) ∧
    ∀ n : LineNo, State.reset.irq = false ∧ State.reset.ctlPin n = false ∧ (State.reset.line n).txdPin = true

/-- A pin reset and a HOST_RESET outside STANDBY and WAKING put every block in its reset state; HOST_RESET keeps
TABLE_BASE, CUSTOM_DIVISOR and the Class Table. In STANDBY and WAKING the reset is held to the end of WAKING. Both keep
the model's own fields: the waiting commands, the SENSE pin levels as last told, the transaction count and the last
read's bytes (the model's choice, log entry 26). The internal values of the reset state that the manual does not give
are the model's choice (log entry 21). -/
def Obligations.ResetsReturnEveryBlock : Prop :=
  (∀ s : State, exec .pinReset s =
    .next
      { State.reset with
        pending := s.pending
        sensePins := s.sensePins
        txnCount := s.txnCount
        busData := s.busData }) ∧
    ∀ s : State, s.settled = true →
      (s.windowShut = false → ∃ t, exec .hostReset s = .next t ∧
        t = { State.reset with
          tableBase := s.tableBase
          customDivisor := s.customDivisor
          classTable := s.classTable
          pending := s.pending
          sensePins := s.sensePins
          txnCount := s.txnCount
          busData := s.busData }) ∧
      (s.windowShut = true → Leads (exec .hostReset s) { s with power := .waking, resetHeld := true })

/-! ### Commands to the sequencer and the lines -/

/-- START, STOP, PAUSE and RESUME act as Table 15 gives, after ending a doze; an ignored one sets CMD_IGNORED. -/
def Obligations.CommandsFollowTable15 : Prop :=
  ∀ (c : SeqCommand) (s : State), s.open = true →
    match table15 c s.seq s.visit.isSome with
    | some q =>
      Leads (exec c.instr s)
        { s.endDoze with
          seq := q
          power := if s.power = .standbyEntry ∧ q.keepsEntry = true then .standbyEntry else .active
          req := if s.power = .standbyEntry ∧ q.keepsEntry = false then .active else s.endDoze.req }
    | none => Leads (exec c.instr s) { s.endDoze with cmdIgnored := true }

/-- CANCEL_RX and CANCEL_TX end a doze and set the named direction's CANCEL_PENDING; a DOORBELL write ends a doze and
sets ATTN on the line it names, or on all sixteen, FAULTED lines included. -/
def Obligations.CancelsAndDoorbellsMarkTheirLines : Prop :=
  ∀ (v : Word) (s : State), s.open = true →
    Leads (exec (.cancelRx v) s) (s.endDoze.setLine (lineOf v) { s.line (lineOf v) with rxCancel := true }) ∧
      Leads (exec (.cancelTx v) s) (s.endDoze.setLine (lineOf v) { s.line (lineOf v) with txCancel := true }) ∧
      Leads (exec (.doorbell v) s)
        (if v.getLsbD 8 then s.endDoze.onLines fun _ l => { l with attn := true }
        else s.endDoze.setLine (lineOf v) { s.line (lineOf v) with attn := true })

/-- RESET_LINE is held while its line is visited; otherwise the line takes its reset state at once, and a waiting doze
is entered if that freed the last ACTIVE transmit direction: that the write does not itself end the doze it lets in is
the model's choice (log entry 29). -/
def Obligations.ResetLineActsAtOnceOrIsHeld : Prop :=
  ∀ (v : Word) (s : State), s.open = true →
    (∀ w, s.visit = some w → w.line = lineOf v →
      Leads (exec (.resetLine v) s) { s.endDoze with visit := some { w with resetHeld := true } }) ∧
    ((∀ w, s.visit = some w → w.line ≠ lineOf v) →
      Leads (exec (.resetLine v) s)
        (if s.power = .active ∧ s.req = .doze ∧ s.visit = none ∧
            (s.setLine (lineOf v) Line.reset).anyTxActive = false then
          { s.setLine (lineOf v) Line.reset with power := .doze }
        else s.endDoze.setLine (lineOf v) Line.reset))

/-! ### POWER -/

/-- POWER with REQ = ACTIVE: it withdraws a request, ends a doze, abandons a standby entry or wakes the part. -/
def Obligations.ActiveRequestActsByPowerState : Prop :=
  ∀ (v : Word) (s : State), s.settled = true →
    (s.windowShut = false →
      Leads (exec (.reqActive v) s) { s with power := .active, req := .active, autoDoze := v.getLsbD 4 }) ∧
    (s.windowShut = true → Leads (exec (.reqActive v) s) { s with power := .waking, autoDoze := v.getLsbD 4 })

/-- POWER with REQ = DOZE: DOZE is entered at once between visits with no ACTIVE transmit direction, and waits
otherwise; STANDBY and WAKING refuse it. -/
def Obligations.DozeRequestIsEnteredOrWaits : Prop :=
  ∀ (v : Word) (s : State), s.settled = true →
    (s.windowShut = false →
      Leads (exec (.reqDoze v) s)
        { s with
          power := if s.visit = none ∧ s.anyTxActive = false then .doze else .active
          req := .doze
          autoDoze := v.getLsbD 4 }) ∧
    (s.windowShut = true → Leads (exec (.reqDoze v) s) { s with writeIgnored := true })

/-- POWER with REQ = STANDBY: accepted in ACTIVE and DOZE while STOPPED or PAUSED, refused as a whole otherwise. In
STANDBY_ENTRY it has no further effect than storing AUTO_DOZE (the model's reading, log entry 18); STANDBY and WAKING
refuse it. -/
def Obligations.StandbyRequestNeedsAStoppedSequencer : Prop :=
  ∀ (v : Word) (s : State), s.settled = true →
    (s.power = .active ∨ s.power = .doze →
      (s.seq = .stopped ∨ s.seq = .paused →
        Leads (exec (.reqStandby v) s)
          { s with power := .standbyEntry, req := .standby, autoDoze := v.getLsbD 4 }) ∧
      (s.seq ≠ .stopped ∧ s.seq ≠ .paused →
        Leads (exec (.reqStandby v) s) { s.endDoze with writeIgnored := true })) ∧
    (s.power = .standbyEntry → Leads (exec (.reqStandby v) s) { s with autoDoze := v.getLsbD 4 }) ∧
    (s.windowShut = true → Leads (exec (.reqStandby v) s) { s with writeIgnored := true })

/-! ### The guard and the interrupt enables -/

/-- A CONTROL write stores the five enables, which act on IRQ at once, and with bit 8 set arms an unarmed guard and
loads its counter; it ends no doze. In STANDBY and WAKING it is refused. A read returns the enables and LIVENESS_EN. The
resets clear all six, and no command but the writes of CONTROL and the resets changes them. -/
def Obligations.ControlStoresEnablesAndArms : Prop :=
  (∀ (v : Word) (s : State), s.open = true →
    Leads (exec (.control v) s)
      { s with
        eventIe := v.getLsbD 0
        tickIe := v.getLsbD 1
        conRxIe := v.getLsbD 2
        conTxIe := v.getLsbD 3
        alertIe := v.getLsbD 4
        livenessEn := s.livenessEn || v.getLsbD 8
        guardRunning := s.guardRunning || (v.getLsbD 8 && !s.livenessEn)
        guardCount := if v.getLsbD 8 && !s.livenessEn then max 1 s.livenessPeriod.toNat else s.guardCount }) ∧
    (∀ (v : Word) (s : State), s.open = true → ∃ t, exec (.control v) s = .next t ∧
      t.irq = ((v.getLsbD 0 && s.eventCondition) || (v.getLsbD 1 && s.tick) || (v.getLsbD 2 && s.conRxReady) ||
        (v.getLsbD 3 && s.conTxReady) || (v.getLsbD 4 && s.alertLiveness))) ∧
    (∀ (v : Word) (s : State), s.settled = true → s.windowShut = true →
      Leads (exec (.control v) s) { s with writeIgnored := true }) ∧
    (∀ s : State, s.readEffect .control = s ∧ s.readWord .control =
      0#23 ++ BitVec.ofBool s.livenessEn ++ 0#3 ++ BitVec.ofBool s.alertIe ++ BitVec.ofBool s.conTxIe ++
        BitVec.ofBool s.conRxIe ++ BitVec.ofBool s.tickIe ++ BitVec.ofBool s.eventIe) ∧
    (∀ s : State, s.pinReset.readWord .control = 0 ∧ s.hostReset.readWord .control = 0) ∧
    ∀ (c : Instr) (s t : State), c.leavesControl = true → exec c s = .next t →
      t.readWord .control = s.readWord .control

/-- KEEPALIVE compares each whole-word write with the two keys; a refresh reloads an armed, running counter. In STANDBY
and WAKING, and at a narrower width, the write is ignored and leaves the flag; the resets clear it. -/
def Obligations.KeepaliveRefreshesByItsKeyPair : Prop :=
  (∀ (v : Word) (s : State), s.open = true →
    Leads (exec (.keepalive v) s)
      { s with
        firstKey := decide (v = 0x0000003C)
        guardCount :=
          if v = 0x000000C3 ∧ s.firstKey = true ∧ s.livenessEn = true ∧ s.guardRunning = true then
            max 1 s.livenessPeriod.toNat
          else s.guardCount }) ∧
    (∀ (v : Word) (s : State), s.settled = true → s.windowShut = true →
      Leads (exec (.keepalive v) s) { s with writeIgnored := true }) ∧
    (∀ (lanes : Lanes) (v : Word) (s : State), s.settled = true → lanes ≠ wholeWord →
      Leads (exec (.registerWrite 0x38 lanes v) s) { s with writeIgnored := true }) ∧
    (∀ (v : Word) (s : State), s.open = true → s.timersOk → s.controlOk → s.quiet = true →
      Leads (exec (.keepalive v) s) { s with firstKey := decide (v = 0x0000003C) }) ∧
    (∀ s : State, s.readWord .keepalive = 0 ∧ s.readEffect .keepalive = s) ∧
    State.reset.firstKey = false ∧ ∀ s : State, s.hostReset.firstKey = false ∧ s.pinReset.firstKey = false

/-- LIVENESS_PERIOD stores bits 15:0 while the guard is unarmed and is refused while it is armed; LIVENESS_EN can be set
but not cleared by a write, and arming loads the counter with the period, a stored 0 acting as 1, while a write with the
guard armed leaves the counter. The resets disarm the guard, stop its counter and clear the period; nothing else
does. That the stopped counter stands at 0 after a reset is the model's reset value (log entry 21). -/
def Obligations.LivenessPeriodIsLockedWhileArmed : Prop :=
  (∀ (v : Word) (s : State), s.open = true →
    Leads (exec (.livenessPeriod v) s)
      (if s.livenessEn then { s with writeIgnored := true } else { s with livenessPeriod := v.extractLsb' 0 16 })) ∧
    (∀ s : State, s.readWord .livenessPeriod = 0#16 ++ s.livenessPeriod) ∧
    (∀ (v : Word) (s : State), s.open = true → ∃ t, exec (.control v) s = .next t ∧
      t.cmdIgnored = s.cmdIgnored ∧ t.writeIgnored = s.writeIgnored ∧
      (v.getLsbD 8 = false →
        t.livenessEn = s.livenessEn ∧ t.guardRunning = s.guardRunning ∧ t.guardCount = s.guardCount) ∧
      (v.getLsbD 8 = true → s.livenessEn = false → t.livenessEn = true ∧ t.guardRunning = true ∧
        t.guardCount = if s.livenessPeriod = 0 then 1 else s.livenessPeriod.toNat) ∧
      (v.getLsbD 8 = true → s.livenessEn = true →
        t.livenessEn = true ∧ t.guardRunning = s.guardRunning ∧ t.guardCount = s.guardCount)) ∧
    (∀ s u : State, u = s.pinReset ∨ u = s.hostReset →
      u.livenessEn = false ∧ u.livenessPeriod = 0 ∧ u.guardRunning = false ∧ u.guardCount = 0) ∧
    ∀ (c : Instr) (s t : State), c.leavesControl = true → exec c s = .next t →
      t.livenessEn = s.livenessEn ∧ t.livenessPeriod = s.livenessPeriod

/-! ### Stored registers -/

/-- TABLE_BASE, CUSTOM_DIVISOR, CADENCE, RESWEEP and COALESCE store their fields; CADENCE and RESWEEP restart their
counts; TABLE_BASE is refused outside STOPPED. -/
def Obligations.StoredRegistersTakeTheirFields : Prop :=
  ∀ (v : Word) (s : State), s.open = true →
    Leads (exec (.tableBase v) s)
      (if s.seq = .stopped then { s with tableBase := v.extractLsb' 10 22 ++ 0#10 }
      else { s with writeIgnored := true }) ∧
    Leads (exec (.customDivisor v) s) { s with customDivisor := v.extractLsb' 0 16 } ∧
    Leads (exec (.cadence v) s) { s with cadence := v.extractLsb' 0 16, cadenceCount := 0 } ∧
    Leads (exec (.resweep v) s) { s with resweep := v.extractLsb' 0 16, resweepCount := 0 } ∧
    Leads (exec (.coalesce v) s) { s with threshold := v.extractLsb' 0 2, ageLimit := v.extractLsb' 8 8 }

/-- CLASS_INDEX stores and shows bits 7:0; a CLASS_DATA access, read or whole-word write, uses the whole entry at the
index and then advances the index, 255 to 0, and ends no doze. A narrower write of either register, and any write in
STANDBY and WAKING, only sets WRITE_IGNORED; a read is served at every width and in every power state. -/
def Obligations.ClassDataAccessesAdvanceTheIndex : Prop :=
  (∀ (v : Word) (s : State), s.open = true →
    Leads (exec (.classDataWrite v) s)
      { s with
        classTable := s.classTable.set s.classIndex.toNat (v.extractLsb' 0 8) s.classIndex.isLt
        classIndex := s.classIndex + 1 } ∧
    Leads (exec (.registerWrite 0x40 wholeWord v) s) { s with classIndex := v.extractLsb' 0 8 }) ∧
    (∀ (lanes : Lanes) (s : State), s.settled = true →
      Leads (exec (.classDataRead lanes) s)
        { s with
          classIndex := s.classIndex + 1
          busData := addressedBytes lanes (0#24 ++ s.classTable[s.classIndex.toNat]'s.classIndex.isLt) }) ∧
    (∀ s : State, s.readWord .classIndex = 0#24 ++ s.classIndex ∧ s.readEffect .classIndex = s) ∧
    (∀ (lanes : Lanes) (v : Word) (s : State), s.settled = true → lanes ≠ wholeWord →
      Leads (exec (.registerWrite 0x40 lanes v) s) { s with writeIgnored := true } ∧
      Leads (exec (.registerWrite 0x44 lanes v) s) { s with writeIgnored := true }) ∧
    ∀ (v : Word) (s : State), s.settled = true → s.windowShut = true →
      Leads (exec (.registerWrite 0x40 wholeWord v) s) { s with writeIgnored := true } ∧
      Leads (exec (.classDataWrite v) s) { s with writeIgnored := true }

/-- In STANDBY and WAKING a gated write, which is every row of its own that is a register write but the POWER rows and
HOST_RESET, does nothing but set WRITE_IGNORED. -/
def Obligations.ShutWindowRefusesWrites : Prop :=
  ∀ (c : Instr) (s : State), c.gatedWrite = true → s.settled = true → s.windowShut = true →
    Leads (exec c s) { s with writeIgnored := true }

/-- A whole-word write of the window is the row of the table that it spells. -/
def Obligations.WholeWordWritesAreTheirRows : Prop :=
  ∀ (offset : BitVec 8) (v : Word) (s : State),
    exec (.registerWrite offset wholeWord v) s = exec (decodeWrite offset wholeWord v) s

/-- Reading a write back as a command inverts writing a well-formed command as a write. -/
def Obligations.WriteDecodingInvertsEncoding : Prop :=
  ∀ (c : Instr) (offset : BitVec 8) (lanes : Lanes) (v : Word), c.wellFormed = true →
    encodeWrite c = some (offset, lanes, v) → decodeWrite offset lanes v = c

/-- REGISTER_WRITE: nothing at an offset without a register; a narrower write, and any write of a read-only register,
only sets WRITE_IGNORED; CLASS_INDEX and LINE_SELECT store their fields; a COMMAND or LINE_CMD value that is refused by
its own decoding ends a doze and sets CMD_IGNORED, the REQ value 3 ends a doze and sets WRITE_IGNORED. In STANDBY and
WAKING each of the five only sets WRITE_IGNORED. -/
def Obligations.RegisterWritesAreStoredOrRefused : Prop :=
  ∀ (offset : BitVec 8) (lanes : Lanes) (v : Word) (s : State), s.settled = true →
    let r := exec (.registerWrite offset wholeWord v) s
    let invalid : Prop :=
      (regAt offset = some .command ∧ commandRow v = none) ∨ (regAt offset = some .lineCmd ∧ v.extractLsb' 8 2 = 0#2)
    let reserved : Prop := regAt offset = some .power ∧ v.extractLsb' 0 2 = 3#2
    (regAt offset = none → Leads (exec (.registerWrite offset lanes v) s) s) ∧
    (lanes ≠ wholeWord → (regAt offset).isSome = true →
      Leads (exec (.registerWrite offset lanes v) s) { s with writeIgnored := true }) ∧
    ((regAt offset).map regAccess = some .readOnly →
      Leads (exec (.registerWrite offset lanes v) s) { s with writeIgnored := true }) ∧
    (s.windowShut = false →
      (regAt offset = some .classIndex → Leads r { s with classIndex := v.extractLsb' 0 8 }) ∧
      (regAt offset = some .lineSelect →
        Leads r { s with lineSelect := ⟨v.toNat % 16, Nat.mod_lt _ (by decide)⟩ }) ∧
      (invalid → Leads r { s.endDoze with cmdIgnored := true }) ∧
      (reserved → Leads r { s.endDoze with writeIgnored := true })) ∧
    (s.windowShut = true →
      regAt offset = some .classIndex ∨ regAt offset = some .lineSelect ∨ invalid ∨ reserved →
      Leads r { s with writeIgnored := true })

/-! ### LINE_SETTING and LINE_FRAME -/

/-- LINE_SETTING: refused outside STOPPED or by the checks. Otherwise the setting word is in force whatever the
transmitter holds, a change of FRAMED resets the framing, a change of INBAND from 1 to 0 clears the in-band hold flag,
the transmitter acts where the word has ended hold state, and both timer limits are looked at again; an IDLE_DUE that
becomes set ends a doze. What `Line.tend` does is said after it. The model's choices in it: a LOOP change before the
first SENSE sample (log entry 17), the idle-gap timer under IDLE_GAP 0 and its count (entries 3 and 25), and the hold
count cleared before the new HOLD_LIMIT is looked at (entry 28). -/
def Obligations.LineSettingIsCheckedThenApplied : Prop :=
  ∀ (v : Word) (s : State), s.open = true →
    let l := s.line s.lineSelect
    let f : Format := { setting := v, divisor := rateDivisor (setRate v) s.customDivisor }
    let kept := { l with
      setting := v
      sensePrev := if setLoop v = setLoop l.setting then l.sensePrev else l.sensePrev.discard }
    let changed : Line :=
      if setFramed v = l.framed then
        { kept with inbandHold := l.inbandHold && !(setInband l.setting && !setInband v) }
      else
        { kept with
          queue := []
          pacing := true
          remnant := false
          frameRx := .hunt
          tail := []
          frameBytes := 0
          txPhase := .idle
          abortPending := false
          inbandHold := false
          idleStarted := false
          idleBits := 0
          idleClocks := 0
          idleDue := false }
    let held (k : Line) : Line :=
      if setHoldLimit v ≠ 0 ∧ k.holdStopped = false ∧ setHoldLimit v * 64 ≤ k.holdCount then
        { k with holdStopped := true, holdDue := true }
      else k
    let timed (k : Line) : Line :=
      if k.idleStarted = true ∧ setIdleGap v ≠ 0 ∧ setIdleGap v * bitPeriods f ≤ k.idleBits then
        { k with idleStarted := false, idleDue := true }
      else k
    let after := timed (held (Line.tend s changed))
    let inHold : Prop := (setAutoHold v = true ∧ l.sense = false) ∨ changed.inbandHold = true
    let followed (k : Line) : Line :=
      { k with
        holdCount := if k.holdTimed then l.holdCount else 0
        holdStopped := if k.holdTimed then l.holdStopped else false }
    Leads (exec (.lineSetting v) s)
      (if s.seq = .stopped ∧ settingValid v = true ∧ (setFramed v = true → l.markChar ≠ l.escapeChar) ∧
          (setFramed v ≠ l.framed → l.rxOrder = none ∧ l.txOrder = none ∧ l.drained = true) then
        (if l.idleDue = false ∧ after.idleDue = true then (s.setLine s.lineSelect after).endDoze
        else s.setLine s.lineSelect after)
      else { s with writeIgnored := true }) ∧
    (s.seq = .stopped →
      (l.shifter ≠ .empty ∨ inHold ∨
          (changed.abortPending = false ∧ changed.holding = none ∧ changed.txPhase ≠ .payload) →
        Line.tend s changed = followed changed) ∧
      (l.shifter = .empty → ¬inHold →
        changed.abortPending = true ∨ (changed.txPhase = .payload ∧ changed.payloadHeld = false) →
        Line.tend s changed =
          followed
            { changed with
              abortPending := false
              underrunDue := l.underrunDue || !changed.abortPending
              txPhase := .abort
              shifter := changed.starting .abortPair l.escapeChar [.plain l.markChar] f }) ∧
      (∀ h : Holding, l.shifter = .empty → ¬inHold → changed.abortPending = false → changed.holding = some h →
        changed.txPhase ≠ .payload → setFramed v = false ∨ h.source ≠ .order →
        Line.tend s changed =
          followed
            { changed with
              holding := none
              ownByte := false
              shifter := changed.starting .character h.byte [] f }))

/-- LINE_SETTING in STOPPED on any line: a valid word that leaves FRAMED unchanged is applied whatever the transmitter
holds, and one that changes FRAMED is refused unless the line is drained with both directions VACANT; nothing but the
selected line changes, except that an IDLE_DUE that becomes set ends a doze. -/
def Obligations.LineSettingTouchesTheSelectedLineOnly : Prop :=
  ∀ (v : Word) (s : State), s.open = true → s.seq = .stopped →
    let l := s.line s.lineSelect
    (settingValid v = true ∧ setFramed v = l.framed ∧ (setFramed v = true → l.markChar ≠ l.escapeChar) →
      ∃ t, exec (.lineSetting v) s = .next t ∧
        (if l.idleDue = false ∧ (t.line s.lineSelect).idleDue = true then
          t.agrees (s.setLine s.lineSelect (t.line s.lineSelect)).endDoze
        else t.agrees (s.setLine s.lineSelect (t.line s.lineSelect))) ∧
        (t.line s.lineSelect).setting = v ∧ (t.line s.lineSelect).queue = l.queue ∧
        (t.line s.lineSelect).rxOrder = l.rxOrder ∧ (t.line s.lineSelect).txOrder = l.txOrder ∧
        (t.line s.lineSelect).receiver = l.receiver) ∧
    (settingValid v = false ∨
        (setFramed v ≠ l.framed ∧ (l.rxOrder.isSome = true ∨ l.txOrder.isSome = true ∨ l.drained = false)) →
      Leads (exec (.lineSetting v) s) { s with writeIgnored := true })

/-- LINE_FRAME: applied in STOPPED where bits 31:16 are zero and MARK differs from ESCAPE on a framed line; refused
otherwise. -/
def Obligations.LineFrameIsCheckedThenApplied : Prop :=
  ∀ (v : Word) (s : State), s.open = true →
    Leads (exec (.lineFrame v) s)
      (if s.seq = .stopped ∧ v.extractLsb' 16 16 = 0#16 ∧
          ((s.line s.lineSelect).framed = true → v.extractLsb' 0 8 ≠ v.extractLsb' 8 8) then
        s.setLine s.lineSelect
          { s.line s.lineSelect with markChar := v.extractLsb' 0 8, escapeChar := v.extractLsb' 8 8 }
      else { s with writeIgnored := true })

/-! ### The console -/

/-- CON_DATA write: refused while the console is inactive; with holding full the byte is lost and TX_LOST set; with
holding empty it is loaded as a console byte, which enters a free shifter at once as one raw character. -/
def Obligations.ConsoleWriteLoadsOrIsLost : Prop :=
  ∀ (v : Word) (s : State), s.open = true →
    let l := s.line 0
    let h : Holding := { byte := v.extractLsb' 0 8, first := false, last := false, source := .console }
    (s.consoleActive = false → Leads (exec (.conDataWrite v) s) { s with writeIgnored := true }) ∧
    (s.consoleActive = true → l.holding.isSome = true →
      Leads (exec (.conDataWrite v) s) { s with txLost := true }) ∧
    (s.consoleActive = true → l.holding = none → l.shifter ≠ .empty ∨ l.inHold = true →
      Leads (exec (.conDataWrite v) s)
        (s.setLine 0
          { l with
            holding := some h
            holdCount := if l.inHold && l.txOrder.isSome then l.holdCount else 0
            holdStopped := if l.inHold && l.txOrder.isSome then l.holdStopped else false })) ∧
    (s.consoleActive = true → l.drained = true → l.inHold = false → l.txPhase ≠ .payload →
      Leads (exec (.conDataWrite v) s)
        (s.setLine 0
          { l with
            ownByte := false
            shifter := l.starting .character (v.extractLsb' 0 8) [] (s.formatOf l)
            holdCount := 0
            holdStopped := false }))

/-- CON_DATA read: while the console is active the head entry of line 0's queue leaves, the pacing flag follows the
count, and a FRAME_END takes the remnant flag with it; while it is inactive, and on an empty queue, 0 is read and
nothing leaves. -/
def Obligations.ConsoleReadTakesTheHead : Prop :=
  ∀ (lanes : Lanes) (s : State), s.settled = true →
    let l := s.line 0
    match l.queue with
    | e :: rest =>
      if s.consoleActive = true then
        Leads (exec (.conDataRead lanes) s)
          { s.setLine 0
              { l with
                queue := rest
                pacing := if 6 ≤ rest.length then false else if rest.length ≤ 2 then true else l.pacing
                remnant := if e.isFrameEnd then false else l.remnant } with
            busData := addressedBytes lanes (0#24 ++ e.value) }
      else Leads (exec (.conDataRead lanes) s) { s with busData := addressedBytes lanes 0 }
    | [] => Leads (exec (.conDataRead lanes) s) { s with busData := addressedBytes lanes 0 }

/-- CON_STATUS read: while the console is active the fields of Table 41 are returned and TX_LOST is cleared; otherwise 0
is read and nothing changes. -/
def Obligations.ConStatusReturnsAndClearsTxLost : Prop :=
  ∀ (lanes : Lanes) (s : State), s.settled = true →
    let code (st : FrameStatus) : BitVec 4 :=
      match st with
      | .good => 0
      | .parity => 3
      | .framing => 4
      | .brk => 5
      | .overrun => 6
      | .badCrc => 8
      | .abortSeen => 9
      | .runt => 10
      | .badEscape => 11
    let head : BitVec 8 :=
      match (s.line 0).queue with
      | [] => 0
      | .data _ parity framing overrun _ :: _ =>
        0#1 ++ BitVec.ofBool overrun ++ BitVec.ofBool framing ++ BitVec.ofBool parity ++ 0#1 ++ 0#2 ++ 1#1
      | .brk overrun :: _ => 0#1 ++ BitVec.ofBool overrun ++ 0#2 ++ 0#1 ++ 1#2 ++ 1#1
      | .frameEnd st :: _ => code st ++ 0#1 ++ 2#2 ++ 1#1
    (s.consoleActive = true →
      Leads (exec (.conStatus lanes) s)
        { s with
          txLost := false
          busData := addressedBytes lanes
            (0#16 ++ 1#1 ++ 0#4 ++ BitVec.ofBool s.txLost ++ BitVec.ofBool (s.line 0).drained ++
              BitVec.ofBool (s.line 0).holding.isNone ++ head) }) ∧
    (s.consoleActive = false →
      Leads (exec (.conStatus lanes) s) { s with busData := addressedBytes lanes 0 })

/-! ### The event port -/

/-- EVENT_TAKE returns the head record, or NONE, with TICK and MORE merged in the places of Table 35, clears TICK and
removes the record; a take from a queue that has overflowed inserts the LOSS marker with the count lost. A read of
EVENT_PEEK returns the head record, or NONE, with TICK, and MORE where a record stands behind the head, and changes
nothing. -/
def Obligations.EventTakeReturnsAndRemovesTheHead : Prop :=
  (∀ (e : EventRec) (tick more : Bool), recordWord e tick more =
    BitVec.ofNat 3 (kindBits e.kind) ++ BitVec.ofNat 4 e.line.val ++ BitVec.ofBool tick ++ BitVec.ofBool more ++ e.a ++
      e.b ++ e.c) ∧
  (∀ (lanes : Lanes) (s : State), s.settled = true →
    match s.events with
    | [] =>
      Leads (exec (.eventTake lanes) s)
        { s with tick := false, busData := addressedBytes lanes (if s.tick then 0x01000000 else 0) }
    | e :: rest =>
      if s.overflow = true then
        Leads (exec (.eventTake lanes) s)
          { s with
            events := rest ++ [{ kind := .loss, line := 0, a := 0, b := BitVec.ofNat 8 (s.lost / 256)
                                 c := BitVec.ofNat 8 s.lost, age := 0 }]
            overflow := false
            lost := 0
            tick := false
            busData := addressedBytes lanes (recordWord e s.tick true) }
      else
        Leads (exec (.eventTake lanes) s)
          { s with
            events := rest
            tick := false
            busData := addressedBytes lanes (recordWord e s.tick (!rest.isEmpty)) }) ∧
  ∀ s : State, s.readEffect .eventPeek = s ∧ s.readWord .eventPeek =
    match s.events with
    | [] => if s.tick then 0x01000000 else 0
    | e :: rest => recordWord e s.tick (!rest.isEmpty)

/-- EVENT_LEVEL returns the count, OVERFLOW, MISSED and LOST in their fields and clears MISSED. -/
def Obligations.EventLevelReturnsAndClearsMissed : Prop :=
  (∀ (lanes : Lanes) (s : State), s.settled = true →
    Leads (exec (.eventLevel lanes) s) { s with missed := 0, busData := addressedBytes lanes s.levelWord }) ∧
    ∀ s : State, s.portOk → s.levelWord =
      BitVec.ofNat 16 s.lost ++ 0#4 ++ BitVec.ofNat 4 s.missed ++ BitVec.ofBool s.overflow ++ 0#1 ++
        BitVec.ofNat 6 s.events.length

/-- STATUS returns the fields of Table 49, with bit 24 set exactly when an interrupt cause stands with its enable, and
clears the two refusal flags. -/
def Obligations.StatusReturnsAndClearsTheRefusalFlags : Prop :=
  (∀ (lanes : Lanes) (s : State), s.settled = true →
    Leads (exec (.status lanes) s)
      { s with cmdIgnored := false, writeIgnored := false, busData := addressedBytes lanes s.statusWord }) ∧
    ∀ s : State,
      let seq : BitVec 3 :=
        match s.seq with
        | .stopped => 0
        | .running => 1
        | .pausing => 2
        | .paused => 3
        | .stopping => 4
        | .quiescing => 5
        | .quiesced => 6
      let power : BitVec 3 :=
        match s.power with
        | .active => 0
        | .doze => 1
        | .standbyEntry => 2
        | .standby => 3
        | .waking => 4
      let console : Bool := s.seq == .stopped && s.power != .standby && s.power != .waking
      s.statusWord =
        0#7 ++ BitVec.ofBool s.irq ++ 0#3 ++ BitVec.ofBool s.alertLiveness ++
          BitVec.ofBool (console && (s.line 0).holding.isNone) ++
          BitVec.ofBool (console && !(s.line 0).queue.isEmpty) ++ BitVec.ofBool s.tick ++
          BitVec.ofBool s.eventCondition ++ 0#4 ++ BitVec.ofBool s.writeIgnored ++ BitVec.ofBool s.cmdIgnored ++
          BitVec.ofBool s.alertLiveness ++ BitVec.ofBool s.mem.isSome ++ 0#1 ++ power ++ 0#1 ++ seq ∧
      (s.statusWord.getLsbD 24 = true ↔
        (s.statusWord.getLsbD 16 = true ∧ s.controlWord.getLsbD 0 = true) ∨
        (s.statusWord.getLsbD 17 = true ∧ s.controlWord.getLsbD 1 = true) ∨
        (s.statusWord.getLsbD 18 = true ∧ s.controlWord.getLsbD 2 = true) ∨
        (s.statusWord.getLsbD 19 = true ∧ s.controlWord.getLsbD 3 = true) ∨
        (s.statusWord.getLsbD 20 = true ∧ s.controlWord.getLsbD 4 = true))

/-- The event interrupt condition holds exactly by count, by the head's age, or by an urgent record anywhere in the
queue; it is INT_CAUSE bit 16 and drives IRQ through EVENT_IE. -/
def Obligations.EventConditionHoldsByCountAgeOrUrgency : Prop :=
  (∀ s : State, s.eventCondition = true ↔
    (match s.threshold with
      | 0#2 => 1
      | 1#2 => 4
      | 2#2 => 8
      | _ => 16) ≤ s.events.length ∨
    (∃ e, s.events.head? = some e ∧ s.ageLimit ≠ 0 ∧ s.ageLimit.toNat ≤ e.age) ∨
    ∃ e ∈ s.events, e.kind = .lineFault ∨ e.kind = .loss ∨ e.kind = .liveness) ∧
    (∀ s : State, s.events = [] → s.eventCondition = false) ∧
    (∀ s : State, s.events.length = 32 → s.eventCondition = true) ∧
    (∀ (s : State) (b : Bool), State.eventCondition { s with tick := b } = s.eventCondition) ∧
    (∀ s : State, s.threshold = 0 → s.ageLimit = 0 → (s.eventCondition = true ↔ s.events ≠ [])) ∧
    (∀ s : State, (s.hostReset.threshold = 0 ∧ s.hostReset.ageLimit = 0) ∧
      (s.pinReset.threshold = 0 ∧ s.pinReset.ageLimit = 0)) ∧
    ∀ s : State, s.statusWord.getLsbD 16 = s.eventCondition ∧
      (s.eventIe = true → s.eventCondition = true → s.irq = true)

/-- IDENT always reads its word; RESWEEP, CADENCE, CUSTOM_DIVISOR and LIVENESS_PERIOD show what was stored in bits 15:0
and 0 above; POWER, COALESCE, FAULT_ADDR, FAULT_DESC and the view of the selected line show their fields where Tables
10, 39, 48, 51 and 52 put them; a read has a side effect only where Table 46 lists one. -/
def Obligations.ReadsOutsideTable46ChangeNothing : Prop :=
  (∀ s : State, s.readWord .ident = 0x4D500116) ∧
    (∀ (v : Word) (s : State), s.open = true →
      (∃ t, exec (.resweep v) s = .next t ∧ t.readWord .resweep = 0#16 ++ v.extractLsb' 0 16) ∧
      (∃ t, exec (.cadence v) s = .next t ∧ t.readWord .cadence = 0#16 ++ v.extractLsb' 0 16) ∧
      (∃ t, exec (.customDivisor v) s = .next t ∧ t.readWord .customDivisor = 0#16 ++ v.extractLsb' 0 16) ∧
      (s.livenessEn = false →
        ∃ t, exec (.livenessPeriod v) s = .next t ∧ t.readWord .livenessPeriod = 0#16 ++ v.extractLsb' 0 16)) ∧
    (∀ s : State, s.unitsOk → s.timersOk →
      let l := s.line s.lineSelect
      let d := s.faultDesc
      let req : BitVec 2 := match s.req with | .active => 0 | .doze => 1 | .standby => 2
      let power : BitVec 3 :=
        match s.power with
        | .active => 0
        | .doze => 1
        | .standbyEntry => 2
        | .standby => 3
        | .waking => 4
      let cause : BitVec 2 := match d.cause with | none => 0 | some .busError => 1 | some .timeout => 2
      let access : BitVec 3 :=
        match d.access with
        | .rxOrderFetch => 0
        | .rxParameterFetch => 1
        | .rxBuffer => 2
        | .rxWriteback => 3
        | .txOrderFetch => 4
        | .txParameterFetch => 5
        | .txBuffer => 6
        | .txWriteback => 7
      let ctl : Bool :=
        s.seq != .quiesced && !setLoop l.setting && (if setAutoPace l.setting then l.pacing else setCtl l.setting)
      s.readWord .power = 0#21 ++ power ++ 0#3 ++ BitVec.ofBool s.autoDoze ++ 0#2 ++ req ∧
      s.readWord .coalesce = 0#16 ++ s.ageLimit ++ 0#6 ++ s.threshold ∧
      s.readWord .faultAddr = s.faultAddr ∧
      s.readWord .faultDesc =
        0#8 ++ BitVec.ofNat 8 d.count ++ 0#6 ++ cause ++ 0#1 ++ access ++ BitVec.ofNat 4 d.line.val ∧
      s.readWord .lineSelect = 0#28 ++ BitVec.ofNat 4 s.lineSelect.val ∧
      s.readWord .lineState =
        0#12 ++ BitVec.ofNat 4 l.queue.length ++ 0#6 ++ BitVec.ofBool ctl ++ BitVec.ofBool l.sense ++ 0#1 ++
          BitVec.ofBool l.inbandHold ++ BitVec.ofBool ((setAutoHold l.setting && !l.sense) || l.inbandHold) ++
          BitVec.ofBool l.drainWait ++ BitVec.ofBool l.attn ++ BitVec.ofBool l.faulted ++
          BitVec.ofBool l.txOrder.isSome ++ BitVec.ofBool l.rxOrder.isSome ∧
      s.readWord .lineSetting = l.setting ∧
      s.readWord .lineFrame = 0#16 ++ l.escapeChar ++ l.markChar ∧
      s.readWord .lineCounts = 0#16 ++ BitVec.ofNat 8 l.changeCount ++ BitVec.ofNat 8 l.framesDropped) ∧
    ∀ (r : Reg) (s : State), r ≠ .status → r ≠ .eventTake → r ≠ .eventLevel → r ≠ .classData →
      r ≠ .conData → r ≠ .conStatus → s.readEffect r = s

/-! ### Invariants every step keeps -/

/-- Every step keeps the event port's invariant. -/
def Obligations.StepsKeepTheEventPort : Prop :=
  ∀ s t : State, s.portOk → step s = .next t → t.portOk

/-- Every step keeps the invariant of every line unit. -/
def Obligations.StepsKeepTheLineUnits : Prop :=
  ∀ s t : State, s.unitsOk → step s = .next t → t.unitsOk

/-- Every step keeps the timers within their periods. That the counter of an unarmed guard stands at 0 is the model's
reset value (log entry 21), and that a clock count waits at its end the model's choice (entry 3). -/
def Obligations.StepsKeepTheTimers : Prop :=
  ∀ s t : State, s.timersOk → step s = .next t → t.timersOk

/-- Every step keeps the sequencer, the memory engine and the power state in agreement. -/
def Obligations.StepsKeepControlConsistent : Prop :=
  ∀ s t : State, s.controlOk → step s = .next t → t.controlOk

/-! ### Visits -/

/-- VISIT goes to the first line from the round-robin position that needs service, takes the snapshot of its three flags,
clears its ATTN and reports its status; no other line changes. A resweep that falls at that instant stays due until the
visit has begun, and its ATTN is then set on the live flags. Where the sequencer may not choose, or no line needs
service, nothing happens. -/
def Obligations.VisitFollowsTheRoundRobin : Prop :=
  (∀ s : State, s.settled = true →
    (∀ n : LineNo, s.picks n → ∃ t, exec .visit s = .next t ∧ t.position = n ∧ (t.line n).attn = false ∧
      (t.line n).statusPending = false ∧
      (∀ v, t.visit = some v → v.line = n ∧ v.attn = (s.line n).attn ∧ v.rxCancel = (s.line n).rxCancel ∧
        v.txCancel = (s.line n).txCancel ∧ v.resetHeld = false) ∧
      ∀ m, m ≠ n → t.line m = s.line m) ∧
    ((∀ n : LineNo, (s.line n).needsService = false) → Leads (exec .visit s) s) ∧
    (s.seq ≠ .running ∨ s.power ≠ .active ∨ s.visit.isSome = true → Leads (exec .visit s) s)) ∧
    ∀ (s : State) (n : LineNo), s.holdsDue = false → s.tickDue = false → s.guardDue = false → s.resweepDue = true →
      s.picksNow n → ∃ t, exec .visit s = .next t ∧ t.position = n ∧ t.resweepDue = true ∧ (t.line n).attn = false ∧
        (∀ v, t.visit = some v → v.line = n ∧ v.attn = (s.line n).attn) ∧ (∀ m, m ≠ n → t.line m = s.line m) ∧
        ∃ u, exec .resweepExpiry t = .next u ∧
          ∀ m, u.line m = if (t.line m).faulted then t.line m else { t.line m with attn := true }

/-- A visit to a line with a VACANT direction reports a pending status change with one STATUS event, a SENSE level
accepted at the same instant being taken after it as a new change (how the model keeps that instant apart: log entry
32), and then reads an order word: that of the RX direction where its CANCEL_PENDING or ATTN is set, a cancel fetch
where it is CANCEL_PENDING; and where the RX direction has no work, that of a TX direction with CANCEL_PENDING. -/
def Obligations.VisitReportsStatusAndFetches : Prop :=
  ∀ (n : LineNo) (s : State), s.holdsDue = false → s.tickDue = false → s.guardDue = false → s.picksNow n →
    let l := s.line n
    let now : Bool := l.countBefore.isSome
    let level : Bool := if now then !l.sense else l.sense
    let count : Nat := l.countBefore.getD l.changeCount
    let pending : Bool := if now then decide (0 < count) else l.statusPending
    let v : Visit := { line := n, attn := l.attn, rxCancel := l.rxCancel, txCancel := l.txCancel, resetHeld := false
                       point := .loadByte }
    let e : EventRec :=
      { kind := .status, line := n
        a := 0#5 ++ BitVec.ofBool (level != l.lastReported) ++ BitVec.ofBool level
        b := BitVec.ofNat 8 count, c := 0, age := 0 }
    let told : State :=
      if pending = true then
        let w := { s with position := n }.setLine n
          { l with
            attn := false
            statusPending := now
            changeCount := if now then 1 else 0
            countBefore := if now then some 0 else none
            lastReported := level }
        if s.events.length < 32 then { w with events := s.events ++ [e] }
        else { w with overflow := true, lost := min 65535 (s.lost + 1) }
      else { s with position := n }.setLine n { l with attn := false }
    let rxWord : Word := s.tableBase + BitVec.ofNat 32 (64 * n.val)
    let txWord : Word := s.tableBase + BitVec.ofNat 32 (64 * n.val + 0x10)
    (l.rxOrder = none → l.rxCancel = true →
      Leads (exec .visit s) (told.issue v (.fetchOrder .rx true) .wordRead rxWord .rxOrderFetch)) ∧
    (l.rxOrder = none → l.rxCancel = false → l.attn = true →
      Leads (exec .visit s) (told.issue v (.fetchOrder .rx false) .wordRead rxWord .rxOrderFetch)) ∧
    (l.rxOrder = none → l.rxCancel = false → l.attn = false → l.txOrder = none → l.txCancel = true →
      Leads (exec .visit s) (told.issue v (.fetchOrder .tx true) .wordRead txWord .txOrderFetch))

/-- A visit serves the ACTIVE receive order. A pending cancel closes it CANCELLED before any entry is handled. RX
SINGLE closes on its entry; a block order stores a character without error and closes on one with an error or on a
break; RX FRAME closes at a FRAME_END with the code of its status, discards a DATA entry met at LENGTH and closes
OVERLONG, and discards a remnant up to its FRAME_END. RX BLOCK with an empty queue and IDLE_DUE set closes IDLE where
it has stored anything, and only clears IDLE_DUE otherwise. That an IDLE_DUE set before IDLE_GAP became 0 acts as any
other is the model's reading of R76 (log entry 38). -/
def Obligations.ReceiveOrdersServeTheHeadEntry : Prop :=
  ∀ (n : LineNo) (s : State), s.settled = true → s.picks n →
    let l := s.line n
    l.statusPending = false → Line.atRest s l → ∀ o : RxOrder, l.rxOrder = some o →
    let v (p : VisitPoint) : Visit :=
      { line := n, attn := l.attn, rxCancel := l.rxCancel, txCancel := l.txCancel, resetHeld := false, point := p }
    let u : State := { s with position := n }
    let block : BitVec 32 := s.tableBase + BitVec.ofNat 32 (64 * n.val)
    let close (k : Line) (datum : Byte) (code : BitVec 5) : State :=
      if o.mode = .single then
        (u.setLine n k).issue (v .loadByte) (.writeOrder .rx (rxClosed o datum code)) (.wordWrite (rxClosed o datum code))
          block .rxWriteback
      else
        (u.setLine n k).issue (v .loadByte) (.writeLength .rx (rxClosed o datum code)) (.wordWrite (o.count ++ o.length))
          (s.tableBase + BitVec.ofNat 32 (64 * n.val + 8)) .rxWriteback
    let used : Bool := o.mode != .block
    let noTx : Prop := l.txOrder = none ∧ l.txCancel = false ∧ l.attn = false ∧ s.req ≠ .doze
    (l.rxCancel = true →
      Leads (exec .visit s)
        (close
          { l with attn := false, rxCancel := false, remnant := l.remnant || (o.mode == .frame && o.frameBegun) } 0 15)) ∧
    (l.rxCancel = false → o.mode = .block → l.queue = [] → l.idleDue = true →
      (o.count ≠ 0 → Leads (exec .visit s) (close { l with attn := false, idleDue := false } 0 2)) ∧
      (o.count = 0 → noTx →
        Leads (exec .visit s) { u.setLine n { l with attn := false, idleDue := false } with mem := none })) ∧
    ∀ (e : Entry) (rest : List Entry), l.rxCancel = false → l.queue = e :: rest →
    let taken : Line :=
      { l with
        attn := false
        idleDue := l.idleDue && !used
        queue := rest
        pacing := pacingAfter l.pacing rest.length
        remnant := l.remnant && !e.isFrameEnd }
    (o.mode = .single → ∀ (code : BitVec 5) (datum : Byte),
      (match e with
        | .brk _ => code = 5 ∧ datum = 0
        | .data value parity framing overrun _ =>
          code = (if framing then 4 else if parity then 3 else if overrun then 6 else 0) ∧ datum = value
        | .frameEnd _ => False) →
      Leads (exec .visit s) (close taken datum code)) ∧
    (o.mode = .block ∨ o.mode = .blockEcho → ∀ value overrun classes, e = .data value false false overrun classes →
      Leads (exec .visit s)
        ((u.setLine n { l with attn := false, idleDue := l.idleDue && !used }).issue (v .loadByte) (.storeByte 3)
          (.byteWrite value) (o.address + o.count.setWidth 32) .rxBuffer)) ∧
    (o.mode = .block ∨ o.mode = .blockEcho →
      ∀ value parity framing overrun classes, e = .data value parity framing overrun classes →
      parity = true ∨ framing = true → Leads (exec .visit s) (close taken value (if framing then 4 else 3))) ∧
    (o.mode = .block ∨ o.mode = .blockEcho → ∀ overrun, e = .brk overrun → Leads (exec .visit s) (close taken 0 5)) ∧
    (o.mode = .frame → l.remnant = false → ∀ st, e = .frameEnd st →
      let code : BitVec 5 :=
        match st with
        | .good => if o.overlong then 12 else 0
        | .badCrc => 8
        | .abortSeen => 9
        | .runt => 10
        | .badEscape => 11
        | .parity => 3
        | .framing => 4
        | .brk => 5
        | .overrun => 6
      Leads (exec .visit s) (close taken 0 code)) ∧
    (o.mode = .frame → l.remnant = false →
      ∀ value parity framing overrun classes, e = .data value parity framing overrun classes →
      (o.count ≠ o.length →
        Leads (exec .visit s)
          ((u.setLine n { l with attn := false, idleDue := false, rxOrder := some { o with frameBegun := true } }).issue
            (v .loadByte) (.storeByte 3) (.byteWrite value) (o.address + o.count.setWidth 32) .rxBuffer)) ∧
      (o.count = o.length →
        let marked : Line := { taken with rxOrder := some { o with overlong := true, frameBegun := true } }
        (rest = [] → noTx → Leads (exec .visit s) { u.setLine n marked with mem := none }) ∧
        ∀ more, rest = .frameEnd .good :: more →
          Leads (exec .visit s)
            (close
              { marked with queue := more, pacing := pacingAfter (pacingAfter l.pacing rest.length) more.length } 0
              12))) ∧
    (o.mode = .frame → l.remnant = true → rest = [] → noTx →
      (∀ overrun, e ≠ .brk overrun) → Leads (exec .visit s) { u.setLine n taken with mem := none })

/-- A visit that reaches the TX step of an ACTIVE transmit order: a cancel closes CANCELLED and UNDERRUN_DUE closes
UNDERRUN; a cancel and a HOLD_DUE, which closes HOLD_TIMEOUT, discard the order's own byte and owe an abort pair for a
frame that has started; BREAK_DONE closes an order whose break has started DONE and is cleared otherwise. TX SINGLE
loads its character, which enters a free shifter at once, and closes DONE; TX BLOCK and TX FRAME read their next byte
into empty holding; TX BREAK starts its break on a drained line; TX SETTING applies its setting and frame characters
there and closes DONE, or is refused with reason 6. The model's choices in it: when a started frame counts as finished
(log entry 10), a LOOP change before the first SENSE sample (entry 17), and the idle-gap count (entries 3 and 25). -/
def Obligations.TransmitOrdersDoTheirStep : Prop :=
  ∀ (n : LineNo) (s : State), s.settled = true → s.picks n → s.req ≠ .doze →
    let l := s.line n
    l.attn = false → l.statusPending = false → l.rxCancel = false →
    l.rxOrder = none ∨ (l.queue = [] ∧ l.idleDue = false) → Line.atRest s l →
    ∀ o : TxOrder, l.txOrder = some o →
    let v : Visit :=
      { line := n, attn := false, rxCancel := false, txCancel := l.txCancel, resetHeld := false, point := .loadByte }
    let u : State := { s with position := n }
    let close (k : Line) (count : BitVec 16) (datum : Byte) (code : BitVec 5) : State :=
      if o.mode = .block ∨ o.mode = .frame then
        (u.setLine n k).issue v (.writeLength .tx (txClosed o datum code)) (.wordWrite (count ++ o.length))
          (s.tableBase + BitVec.ofNat 32 (64 * n.val + 0x18)) .txWriteback
      else
        (u.setLine n k).issue v (.writeOrder .tx (txClosed o datum code)) (.wordWrite (txClosed o datum code))
          (s.tableBase + BitVec.ofNat 32 (64 * n.val + 0x10)) .txWriteback
    let closed : Line :=
      { l with
        txCancel := false
        holdDue := false
        underrunDue := false
        breakDone := false
        drainWait := false
        ownByte := false }
    let format (setting : Word) : Format :=
      { setting := setting, divisor := rateDivisor (setRate setting) s.customDivisor }
    let started : Bool := o.mode == .frame && o.count != 0 && l.frameOpen
    let idle (k : Line) : Line :=
      if k.idleStarted = true ∧ setIdleGap k.setting ≠ 0 ∧
          setIdleGap k.setting * bitPeriods (format k.setting) ≤ k.idleBits then
        { k with idleStarted := false, idleDue := true }
      else k
    let applied : Line :=
      { closed with
        setting := o.settingWord
        markChar := o.markChar
        escapeChar := o.escapeChar
        sensePrev := if setLoop o.settingWord = setLoop l.setting then l.sensePrev else l.sensePrev.discard }
    let quiet : Prop := l.txCancel = false ∧ l.underrunDue = false ∧ l.holdDue = false ∧ l.breakDone = false
    (∀ (h : Holding) (code : BitVec 5) (datum : Byte),
      (l.txCancel = true ∧ code = 15 ∧ datum = 0) ∨
        (l.txCancel = false ∧ l.underrunDue = false ∧ l.holdDue = true ∧ code = 14 ∧ datum = h.byte) →
      l.ownByte = true → l.holding = some h →
      Leads (exec .visit s)
        (close
          { closed with
            holding := none
            abortPending := l.abortPending || started
            txOrder := some { o with count := o.count - 1 }
            holdCount := 0
            holdStopped := false }
          (o.count - 1) datum code)) ∧
    (∀ code : BitVec 5,
      (l.txCancel = true ∧ code = 15) ∨
        (l.txCancel = false ∧ l.underrunDue = false ∧ l.holdDue = true ∧ code = 14) →
      l.ownByte = false → started = false ∨ l.shifter ≠ .empty ∨ l.inHold = true →
      Leads (exec .visit s) (close { closed with abortPending := l.abortPending || started } o.count 0 code)) ∧
    (l.txCancel = false → l.underrunDue = true → Leads (exec .visit s) (close closed o.count 0 13)) ∧
    (l.txCancel = false → l.underrunDue = false → l.holdDue = false → l.breakDone = true →
      (o.mode = .brk → o.breakStarted = true → Leads (exec .visit s) (close closed o.count o.datum 0)) ∧
      (o.mode = .block → l.holding = none →
        Leads (exec .visit s)
          ((u.setLine n { l with breakDone := false }).issue v .loadByte .byteRead (o.address + o.count.setWidth 32)
            .txBuffer)) ∧
      (o.mode = .brk → o.breakStarted = false → l.drainWait = false ∨ l.drained = false →
        Leads (exec .visit s) { u.setLine n { l with breakDone := false } with mem := none })) ∧
    (quiet → o.mode = .single → l.holding = none →
      (l.shifter ≠ .empty ∨ l.inHold = true →
        let h : Holding := { byte := o.datum, first := false, last := false, source := .order }
        Leads (exec .visit s) (close { closed with holding := some h } o.count o.datum 0)) ∧
      (l.shifter = .empty → l.inHold = false → l.framed = false →
        Leads (exec .visit s)
          (close { closed with shifter := l.starting .character o.datum [] (format l.setting) } o.count o.datum 0))) ∧
    (quiet → o.mode = .block ∨ o.mode = .frame → l.holding = none →
      Leads (exec .visit s) (u.issue v .loadByte .byteRead (o.address + o.count.setWidth 32) .txBuffer)) ∧
    (quiet → o.mode = .brk → l.drainWait = true → l.drained = true →
      Leads (exec .visit s)
        { u.setLine n
            { l with
              drainWait := false
              txOrder := some { o with breakStarted := true }
              shifter := .brk o.datum (format l.setting) 0 (setLoop l.setting) } with
          mem := none }) ∧
    (quiet → o.mode = .setting → l.drainWait = true → l.drained = true →
      (setFramed o.settingWord = l.framed → l.txPhase ≠ .payload →
        Leads (exec .visit s)
          (close
            (idle
              { applied with inbandHold := l.inbandHold && !(setInband l.setting && !setInband o.settingWord) })
            o.count 0 0)) ∧
      (setFramed o.settingWord ≠ l.framed → l.rxOrder = none →
        Leads (exec .visit s)
          (close
            { applied with
              queue := []
              pacing := true
              remnant := false
              frameRx := .hunt
              tail := []
              frameBytes := 0
              txPhase := .idle
              inbandHold := false
              idleStarted := false
              idleBits := 0
              idleClocks := 0
              idleDue := false }
            o.count 0 0)) ∧
      (setFramed o.settingWord ≠ l.framed → l.rxOrder.isSome = true →
        Leads (exec .visit s) (close closed o.count 6 16)))

/-! ### Answers of host memory -/

/-- A fetched order word with OWN = 1 that fails a check of its direction is written back with OWN = 0, code REJECTED
and the reason of the first check that fails; a buffer mode whose length word has LENGTH 0 has its length word written
as 0 first, with reason 3; a setting word that fails its checks is rejected with reason 5, a frame word with reason 5
for its upper half and 7 where a framed setting has MARK equal to ESCAPE. A cancel fetch closes an order word with
OWN = 1 CANCELLED, without a length word; with OWN = 0 it only clears CANCEL_PENDING, and the visit goes on. -/
def Obligations.FetchesRejectInvalidOrders : Prop :=
  ∀ (s : State) (v : Visit) (t : Txn) (w : Word), s.visit = some v → s.mem = some t → s.awaits t = true →
    t.request = .wordRead →
    let l := s.line v.line
    Line.atRest s l →
    let rejected (order : Word) (reason : Byte) : Word :=
      0#1 ++ order.extractLsb' 28 3 ++ order.extractLsb' 24 4 ++ order.extractLsb' 16 8 ++ reason ++ 16#5 ++ 0#3
    let cleared (d : Dir) : Line :=
      match d with
      | .rx => { l with rxCancel := false }
      | .tx =>
        { l with
          txCancel := false
          holdDue := false
          underrunDue := false
          breakDone := false
          drainWait := false
          ownByte := false }
    let block (offset : Nat) : BitVec 32 := s.tableBase + BitVec.ofNat 32 (64 * v.line.val + offset)
    (v.point = .fetchOrder .rx false → w.getLsbD 31 = true →
      let mode := (w.extractLsb' 28 3).toNat
      mode = 0 ∨ 5 ≤ mode ∨ w.extractLsb' 26 2 ≠ 0#2 ∨ (l.framed = true ∧ mode ≠ 4) ∨
        (l.framed = false ∧ mode = 4) →
      let order := rejected w (if mode = 0 ∨ 5 ≤ mode then 1 else if w.extractLsb' 26 2 ≠ 0#2 then 2 else 4)
      Leads (exec (.wordRead t.tag (.ok w)) s)
        ((s.setLine v.line (cleared .rx)).issue v (.writeOrder .rx order) (.wordWrite order) (block 0)
          .rxWriteback)) ∧
    (v.point = .fetchOrder .tx false → w.getLsbD 31 = true →
      let mode := (w.extractLsb' 28 3).toNat
      let invalid := mode = 0 ∨ 6 ≤ mode
      let wrongFraming :=
        mode ≠ 3 ∧ mode ≠ 5 ∧ ((l.framed = true ∧ mode ≠ 4) ∨ (l.framed = false ∧ mode = 4))
      invalid ∨ w.extractLsb' 26 2 ≠ 0#2 ∨ wrongFraming ∨ (mode = 5 ∧ w.extractLsb' 8 8 = 0#8) →
      let order := rejected w
        (if mode = 0 ∨ 6 ≤ mode then 1
        else if w.extractLsb' 26 2 ≠ 0#2 then 2
        else if mode = 5 then 8
        else 4)
      Leads (exec (.wordRead t.tag (.ok w)) s)
        ((s.setLine v.line (cleared .tx)).issue v (.writeOrder .tx order) (.wordWrite order) (block 0x10)
          .txWriteback)) ∧
    (∀ (d : Dir) (order address : Word), v.point = .fetchLength d order address → w.extractLsb' 0 16 = 0#16 →
      Leads (exec (.wordRead t.tag (.ok w)) s)
        ((s.setLine v.line (cleared d)).issue v (.writeLength d (rejected order 3)) (.wordWrite 0)
          (block (match d with | .rx => 8 | .tx => 0x18))
          (match d with | .rx => .rxWriteback | .tx => .txWriteback))) ∧
    (∀ (order : Word), v.point = .fetchSetting order → settingValid w = false →
      Leads (exec (.wordRead t.tag (.ok w)) s)
        ((s.setLine v.line (cleared .tx)).issue v (.writeOrder .tx (rejected order 5)) (.wordWrite (rejected order 5))
          (block 0x10) .txWriteback)) ∧
    (∀ (order setting : Word), v.point = .fetchFrame order setting →
      w.extractLsb' 16 16 ≠ 0#16 ∨ (setFramed setting = true ∧ w.extractLsb' 0 8 = w.extractLsb' 8 8) →
      let answer := rejected order (if w.extractLsb' 16 16 ≠ 0#16 then 5 else 7)
      Leads (exec (.wordRead t.tag (.ok w)) s)
        ((s.setLine v.line (cleared .tx)).issue v (.writeOrder .tx answer) (.wordWrite answer) (block 0x10)
          .txWriteback)) ∧
    (∀ d : Dir, v.point = .fetchOrder d true → w.getLsbD 31 = true →
      let order : Word :=
        0#1 ++ w.extractLsb' 28 3 ++ w.extractLsb' 24 4 ++ w.extractLsb' 16 8 ++ 0#8 ++ 15#5 ++ 0#3
      Leads (exec (.wordRead t.tag (.ok w)) s)
        ((s.setLine v.line (cleared d)).issue v (.writeOrder d order) (.wordWrite order)
          (block (match d with | .rx => 0 | .tx => 0x10))
          (match d with | .rx => .rxWriteback | .tx => .txWriteback))) ∧
    (v.point = .fetchOrder .tx true → w.getLsbD 31 = false → s.plainVisit v →
      Leads (exec (.wordRead t.tag (.ok w)) s)
        { s.setLine v.line { l with txCancel := false } with visit := none, mem := none, seq := s.seq.afterVisit }) ∧
    (v.point = .fetchOrder .rx true → w.getLsbD 31 = false → l.txOrder = none → v.txCancel = true ∨ v.attn = true →
      Leads (exec (.wordRead t.tag (.ok w)) s)
        ((s.setLine v.line { l with rxCancel := false }).issue v (.fetchOrder .tx v.txCancel) .wordRead (block 0x10)
          .txOrderFetch))

/-- A fetched word that passes its checks: an order word with OWN = 0 is left and the visit goes on; a buffer mode reads
its ADDRESS word and then its length word, TX SETTING its setting word and then its frame word; the last word read
makes the direction ACTIVE with the copied order, and the order's work begins in the same step: a receive order that
finds no entry waits, TX SINGLE loads its character and closes DONE, TX BLOCK and TX FRAME read their first byte, TX
BREAK and TX SETTING act on a drained line and wait for one otherwise. -/
def Obligations.FetchesReadOnAndAccept : Prop :=
  ∀ (s : State) (v : Visit) (t : Txn) (w : Word), s.plainVisit v → s.mem = some t → s.awaits t = true →
    t.request = .wordRead → v.attn = true → v.rxCancel = false → v.txCancel = false →
    let l := s.line v.line
    Line.atRest s l → l.txOrder = none →
    let block (offset : Nat) : BitVec 32 := s.tableBase + BitVec.ofNat 32 (64 * v.line.val + offset)
    (v.point = .fetchOrder .rx false → w.getLsbD 31 = false →
      Leads (exec (.wordRead t.tag (.ok w)) s)
        (s.issue v (.fetchOrder .tx false) .wordRead (block 0x10) .txOrderFetch)) ∧
    (v.point = .fetchOrder .tx false → w.getLsbD 31 = false →
      Leads (exec (.wordRead t.tag (.ok w)) s) { s with visit := none, mem := none, seq := s.seq.afterVisit }) ∧
    (v.point = .fetchOrder .rx false → w.getLsbD 31 = true → w.extractLsb' 26 2 = 0#2 →
      (l.framed = false ∧ (w.extractLsb' 28 3 = 2#3 ∨ w.extractLsb' 28 3 = 3#3)) ∨
        (l.framed = true ∧ w.extractLsb' 28 3 = 4#3) →
      Leads (exec (.wordRead t.tag (.ok w)) s)
        (s.issue v (.fetchAddress .rx w) .wordRead (block 4) .rxParameterFetch)) ∧
    (v.point = .fetchOrder .tx false → w.getLsbD 31 = true → w.extractLsb' 26 2 = 0#2 →
      (l.framed = false ∧ w.extractLsb' 28 3 = 2#3) ∨ (l.framed = true ∧ w.extractLsb' 28 3 = 4#3) →
      Leads (exec (.wordRead t.tag (.ok w)) s)
        (s.issue v (.fetchAddress .tx w) .wordRead (block 0x14) .txParameterFetch)) ∧
    (v.point = .fetchOrder .tx false → w.getLsbD 31 = true → w.extractLsb' 26 2 = 0#2 →
      w.extractLsb' 28 3 = 3#3 →
      Leads (exec (.wordRead t.tag (.ok w)) s)
        (s.issue v (.fetchSetting w) .wordRead (block 0x1C) .txParameterFetch)) ∧
    (∀ order : Word, v.point = .fetchSetting order → settingValid w = true →
      Leads (exec (.wordRead t.tag (.ok w)) s)
        (s.issue v (.fetchFrame order w) .wordRead (block 0x0C) .txParameterFetch)) ∧
    (∀ (d : Dir) (order : Word), v.point = .fetchAddress d order →
      Leads (exec (.wordRead t.tag (.ok w)) s)
        (s.issue v (.fetchLength d order w) .wordRead (block (match d with | .rx => 8 | .tx => 0x18))
          (match d with | .rx => .rxParameterFetch | .tx => .txParameterFetch))) ∧
    (v.point = .fetchOrder .rx false → w.getLsbD 31 = true → w.extractLsb' 26 2 = 0#2 →
      l.framed = false → w.extractLsb' 28 3 = 1#3 → l.queue = [] →
      let o : RxOrder :=
        { mode := .single, flags := w.extractLsb' 24 4, tag := w.extractLsb' 16 8, datum := w.extractLsb' 8 8
          address := 0, length := 0, count := 0, overlong := false, frameBegun := false }
      Leads (exec (.wordRead t.tag (.ok w)) s)
        ((s.setLine v.line { l with rxOrder := some o, idleDue := false }).issue v (.fetchOrder .tx false) .wordRead
          (block 0x10) .txOrderFetch)) ∧
    (∀ (order address : Word), v.point = .fetchLength .rx order address → w.extractLsb' 0 16 ≠ 0#16 →
      order.extractLsb' 28 3 = 2#3 ∨ order.extractLsb' 28 3 = 3#3 ∨ order.extractLsb' 28 3 = 4#3 → l.queue = [] →
      l.idleDue = false →
      let o : RxOrder :=
        { mode :=
            if order.extractLsb' 28 3 = 2#3 then .block
            else if order.extractLsb' 28 3 = 3#3 then .blockEcho
            else .frame
          flags := order.extractLsb' 24 4, tag := order.extractLsb' 16 8
          datum := order.extractLsb' 8 8, address := address, length := w.extractLsb' 0 16, count := 0
          overlong := false, frameBegun := false }
      Leads (exec (.wordRead t.tag (.ok w)) s)
        ((s.setLine v.line { l with rxOrder := some o }).issue v (.fetchOrder .tx false) .wordRead (block 0x10)
          .txOrderFetch)) ∧
    let quiet : Prop := l.underrunDue = false ∧ l.holdDue = false ∧ l.breakDone = false
    let format : Format := { setting := l.setting, divisor := rateDivisor (setRate l.setting) s.customDivisor }
    let copied (mode : TxMode) (order setting frame : Word) : TxOrder :=
      { mode := mode, flags := order.extractLsb' 24 4, tag := order.extractLsb' 16 8, datum := order.extractLsb' 8 8
        address := 0, length := 0, count := 0, settingWord := setting, markChar := frame.extractLsb' 0 8
        escapeChar := frame.extractLsb' 8 8, breakStarted := false }
    let ended (k : Line) : State :=
      { s.setLine v.line k with visit := none, mem := none, seq := s.seq.afterVisit }
    let write (o : TxOrder) (datum : Byte) (code : BitVec 5) : Txn :=
      { tag := s.txnCount, request := .wordWrite (txClosed o datum code), addr := block 0x10, access := .txWriteback
        line := v.line, beats := 0 }
    (v.point = .fetchOrder .tx false → w.getLsbD 31 = true → w.extractLsb' 26 2 = 0#2 → l.framed = false →
      w.extractLsb' 28 3 = 1#3 → l.holding = none → quiet →
      let o := copied .single w 0 0
      let loaded : Line :=
        if l.shifter ≠ .empty ∨ l.inHold = true then
          { l with holding := some { byte := o.datum, first := false, last := false, source := .order } }
        else { l with shifter := l.starting .character o.datum [] format }
      Leads (exec (.wordRead t.tag (.ok w)) s)
        ((s.setLine v.line
            { loaded with txOrder := some o, txCancel := false, drainWait := false, ownByte := false }).issue v
          (.writeOrder .tx (txClosed o o.datum 0)) (.wordWrite (txClosed o o.datum 0)) (block 0x10) .txWriteback)) ∧
    (v.point = .fetchOrder .tx false → w.getLsbD 31 = true → w.extractLsb' 26 2 = 0#2 → w.extractLsb' 28 3 = 5#3 →
      w.extractLsb' 8 8 ≠ 0#8 → quiet →
      let o := copied .brk w 0 0
      (l.drained = true →
        Leads (exec (.wordRead t.tag (.ok w)) s)
          (ended
            { l with
              txOrder := some { o with breakStarted := true }
              drainWait := false
              ownByte := false
              shifter := .brk o.datum format 0 (setLoop l.setting) })) ∧
      (l.drained = false →
        Leads (exec (.wordRead t.tag (.ok w)) s)
          (ended { l with txOrder := some o, drainWait := true, ownByte := false }))) ∧
    (∀ order setting : Word, v.point = .fetchFrame order setting → w.extractLsb' 16 16 = 0#16 →
      (setFramed setting = true → w.extractLsb' 0 8 ≠ w.extractLsb' 8 8) → quiet →
      let o := copied .setting order setting w
      (l.drained = false →
        Leads (exec (.wordRead t.tag (.ok w)) s)
          (ended { l with txOrder := some o, drainWait := true, ownByte := false })) ∧
      (l.drained = true → setFramed setting ≠ l.framed → l.rxOrder.isSome = true →
        Leads (exec (.wordRead t.tag (.ok w)) s)
          ((s.setLine v.line
              { l with txOrder := some o, txCancel := false, drainWait := false, ownByte := false }).issue v
            (.writeOrder .tx (txClosed o 6 16)) (.wordWrite (txClosed o 6 16)) (block 0x10) .txWriteback)) ∧
      (l.drained = true → setFramed setting = l.framed ∨ l.rxOrder = none →
        ∃ u, exec (.wordRead t.tag (.ok w)) s = .next u ∧ u.mem = some (write o 0 0) ∧
          (u.line v.line).setting = setting ∧ (u.line v.line).markChar = w.extractLsb' 0 8 ∧
          (u.line v.line).escapeChar = w.extractLsb' 8 8 ∧ (u.line v.line).txOrder = some o ∧
          (u.line v.line).rxOrder = l.rxOrder ∧ (u.line v.line).drainWait = false)) ∧
    (∀ (order address : Word), v.point = .fetchLength .tx order address → w.extractLsb' 0 16 ≠ 0#16 →
      order.extractLsb' 28 3 = 2#3 ∨ order.extractLsb' 28 3 = 4#3 → l.holding = none → quiet →
      let o : TxOrder :=
        { mode := if order.extractLsb' 28 3 = 2#3 then .block else .frame, flags := order.extractLsb' 24 4
          tag := order.extractLsb' 16 8, datum := order.extractLsb' 8 8, address := address
          length := w.extractLsb' 0 16, count := 0, settingWord := 0, markChar := 0, escapeChar := 0
          breakStarted := false }
      Leads (exec (.wordRead t.tag (.ok w)) s)
        ((s.setLine v.line { l with txOrder := some o, drainWait := false, ownByte := false }).issue v .loadByte
          .byteRead address .txBuffer))

/-- The length-word write of a close is followed by its order-word write; with that the direction becomes VACANT, the
end event is inserted unless the order is QUIET and DONE, and the visit goes on. Where the visit then ends, a held
RESET_LINE puts the line into its reset state, PAUSING and STOPPING become PAUSED and STOPPED, QUIESCING becomes
QUIESCED with every line's holding discarded (the phase of an empty shifter is the model's reading, log entry 11), and a
waiting DOZE request is entered once no transmit direction is ACTIVE, before the sequencer chooses again. -/
def Obligations.ClosesWriteBackAndVacate : Prop :=
  ∀ (s : State) (v : Visit) (t : Txn) (order : Word), s.visit = some v → s.mem = some t → s.awaits t = true →
    (∃ data, t.request = .wordWrite data) →
    let l := s.line v.line
    (∀ d : Dir, v.point = .writeLength d order →
      Leads (exec (.wordWrite t.tag .ok) s)
        (s.issue v (.writeOrder d order) (.wordWrite order)
          (s.tableBase + BitVec.ofNat 32 (64 * v.line.val + match d with | .rx => 0 | .tx => 0x10))
          (match d with | .rx => .rxWriteback | .tx => .txWriteback))) ∧
    (∀ d : Dir, s.power = .active → s.seq.mayVisit = true → s.dozeBarred = false →
      v.point = .writeOrder d order → Line.atRest s l → v.attn = false → v.txCancel = false →
      (d = .rx → l.txOrder = none) →
      let vacant : Line :=
        match d with
        | .rx => { l with rxOrder := none }
        | .tx => { l with txOrder := none, holdCount := 0, holdStopped := false }
      let quiesced (k : Line) : Line :=
        { k with
          holding := none
          ownByte := false
          abortPending := false
          txPhase := if k.shifter = .empty then .idle else k.txPhase
          holdCount := 0
          holdStopped := false }
      let after (n : LineNo) : Line :=
        let k := if n = v.line then (if v.resetHeld then Line.reset else vacant) else s.line n
        if s.seq = .quiescing then quiesced k else k
      let u : State :=
        { s with
          lines := Vector.ofFn after
          visit := none
          mem := none
          seq := if s.seq = .quiescing then .quiesced else s.seq.afterVisit
          power := if s.req = .doze ∧ ∀ n, (after n).txOrder = none then .doze else .active }
      let e : EventRec :=
        { kind := match d with | .rx => .rxEnd | .tx => .txEnd
          line := v.line, a := 0#2 ++ order.extractLsb' 3 5, b := order.extractLsb' 16 8
          c := order.extractLsb' 8 8, age := 0 }
      Leads (exec (.wordWrite t.tag .ok) s)
        (if order.extractLsb' 3 5 = 0#5 ∧ order.getLsbD 25 = true then u
        else if s.events.length < 32 then { u with events := s.events ++ [e] }
        else { u with overflow := true, lost := min 65535 (s.lost + 1) }))

/-- A stored character counts and leaves the queue. An RX BLOCK order then closes by Table 24 (OVERRUN, MARKED, DONE),
goes on with the next character, or with the queue empty and IDLE_DUE set closes IDLE. An RX BLOCK_ECHO order echoes
the character, but not one that closes it MARKED: into empty holding while no transmit order is ACTIVE and the line is
not in hold state, from where it enters a free shifter at once; where it cannot, the order closes NOT_ECHOED, unless
OVERRUN comes before. An RX FRAME order goes on. That an IDLE_DUE set before IDLE_GAP became 0 acts as any other is the
model's reading of R76 (log entry 38). -/
def Obligations.StoredCharactersCountAndCloseBlocks : Prop :=
  ∀ (s : State) (v : Visit) (t : Txn) (quota : Nat) (o : RxOrder) (value : Byte) (parity framing overrun : Bool)
    (classes : BitVec 4) (rest : List Entry), s.visit = some v → s.mem = some t → s.awaits t = true →
    (∃ b, t.request = .byteWrite b) → v.point = .storeByte quota →
    let l := s.line v.line
    l.rxOrder = some o → l.queue = .data value parity framing overrun classes :: rest → Line.atRest s l →
    let o' := { o with count := o.count + 1 }
    let stored : Line := { l with rxOrder := some o', queue := rest, pacing := pacingAfter l.pacing rest.length }
    let closeAs (k : Line) (datum : Byte) (code : BitVec 5) : State :=
      (s.setLine v.line { k with rxCancel := false }).issue v (.writeLength .rx (rxClosed o datum code))
        (.wordWrite ((o.count + 1) ++ o.length)) (s.tableBase + BitVec.ofNat 32 (64 * v.line.val + 8)) .rxWriteback
    let close (code : BitVec 5) : State := closeAs stored value code
    let mayEcho : Prop := l.txOrder = none ∧ l.holding = none ∧ l.inHold = false
    let echoed : Line :=
      if l.shifter = .empty then
        { stored with
          ownByte := false
          shifter :=
            l.starting .character value []
              { setting := l.setting, divisor := rateDivisor (setRate l.setting) s.customDivisor } }
      else { stored with holding := some { byte := value, first := false, last := false, source := .echo } }
    let markStop := o.flags.getLsbD 0 = true ∧ classes.getLsbD 0 = true
    (o.mode = .block → overrun = true → Leads (exec (.byteWrite t.tag .ok) s) (close 6)) ∧
    (o.mode = .block → overrun = false → markStop → Leads (exec (.byteWrite t.tag .ok) s) (close 1)) ∧
    (o.mode = .block → overrun = false → ¬markStop → o.count + 1 = o.length →
      Leads (exec (.byteWrite t.tag .ok) s) (close 0)) ∧
    (∀ q next overrun' classes' more, quota = q + 1 → rest = .data next false false overrun' classes' :: more →
      o.mode = .block ∧ overrun = false ∧ ¬markStop ∧ o.count + 1 ≠ o.length →
      Leads (exec (.byteWrite t.tag .ok) s)
        ((s.setLine v.line stored).issue v (.storeByte q) (.byteWrite next) (o.address + (o.count + 1).setWidth 32)
          .rxBuffer)) ∧
    (o.mode = .block → overrun = false → ¬markStop → o.count + 1 ≠ o.length → o.count + 1 ≠ 0 → rest = [] →
      l.idleDue = true →
      Leads (exec (.byteWrite t.tag .ok) s) (closeAs { stored with idleDue := false } 0 2)) ∧
    (o.mode = .blockEcho → markStop →
      Leads (exec (.byteWrite t.tag .ok) s) (close (if overrun then 6 else 1))) ∧
    (o.mode = .blockEcho → ¬markStop → ¬mayEcho →
      Leads (exec (.byteWrite t.tag .ok) s) (close (if overrun then 6 else 7))) ∧
    (o.mode = .blockEcho → ¬markStop → mayEcho →
      (overrun = true ∨ o.count + 1 = o.length →
        Leads (exec (.byteWrite t.tag .ok) s) (closeAs echoed value (if overrun then 6 else 0))) ∧
      (∀ q next overrun' classes' more, quota = q + 1 → rest = .data next false false overrun' classes' :: more →
        overrun = false → o.count + 1 ≠ o.length →
        Leads (exec (.byteWrite t.tag .ok) s)
          ((s.setLine v.line echoed).issue v (.storeByte q) (.byteWrite next)
            (o.address + (o.count + 1).setWidth 32) .rxBuffer))) ∧
    (s.plainVisit v → o.mode = .frame → quota = 0 → l.txOrder = none → v.attn = false → v.txCancel = false →
      Leads (exec (.byteWrite t.tag .ok) s)
        { s.setLine v.line stored with visit := none, mem := none, seq := s.seq.afterVisit })

/-- A byte that has been read is loaded into empty holding as the order's own byte, FIRST and LAST marked in TX FRAME,
and counts; where the shifter is free and the line is not in hold state it enters at once, as one character under TX
BLOCK and as the start of the frame under TX FRAME. The order closes DONE at LENGTH and MARKED where a TX BLOCK order
with MARK_STOP meets class MARK. A byte read while UNDERRUN_DUE stands is discarded. -/
def Obligations.LoadedBytesCountAndCloseOrders : Prop :=
  ∀ (s : State) (v : Visit) (t : Txn) (o : TxOrder) (b : Byte), s.plainVisit v →
    s.mem = some t → s.awaits t = true →
    t.request = .byteRead → v.point = .loadByte →
    let l := s.line v.line
    l.txOrder = some o → Line.atRest s l →
    (l.underrunDue = true →
      Leads (exec (.byteRead t.tag (.ok b)) s) { s with visit := none, mem := none, seq := s.seq.afterVisit }) ∧
    (l.underrunDue = false → o.mode = .block ∨ o.mode = .frame → l.holding = none →
      let free : Prop := l.shifter = .empty ∧ l.inHold = false
      let format : Format := { setting := l.setting, divisor := rateDivisor (setRate l.setting) s.customDivisor }
      let trailer : List Piece := if o.count + 1 = o.length then [.crcHigh, .crcLow, .closing] else []
      ¬free ∨ (o.mode = .block ∧ l.framed = false) ∨ (o.mode = .frame ∧ l.framed = true ∧ o.count = 0) →
      let h : Holding :=
        { byte := b
          first := decide (o.mode = .frame ∧ o.count = 0)
          last := decide (o.mode = .frame ∧ o.count + 1 = o.length)
          source := .order }
      let counted : Line := { l with txOrder := some { o with count := o.count + 1 } }
      let loaded : Line :=
        if l.shifter ≠ .empty ∨ l.inHold = true then { counted with holding := some h }
        else if o.mode = .block then { counted with shifter := l.starting .character b [] format }
        else
          { counted with
            txPhase := .opening
            txCrc := 0xFFFF
            shifter := l.starting (.frame h.last) l.markChar (.payload b :: trailer) format }
      let close (code : BitVec 5) : State :=
        (s.setLine v.line
            { loaded with
              txCancel := false
              holdDue := false
              underrunDue := false
              breakDone := false
              drainWait := false
              ownByte := false }).issue v
          (.writeLength .tx (txClosed o b code)) (.wordWrite ((o.count + 1) ++ o.length))
          (s.tableBase + BitVec.ofNat 32 (64 * v.line.val + 0x18)) .txWriteback
      let marks : Prop := o.mode = .block ∧ o.flags.getLsbD 0 = true ∧
        (classLookup s.classTable (setClassB l.setting)
          (lineValue { setting := l.setting, divisor := 1 } b)).getLsbD 0 = true
      (o.count + 1 = o.length → Leads (exec (.byteRead t.tag (.ok b)) s) (close 0)) ∧
      (o.count + 1 ≠ o.length → marks → Leads (exec (.byteRead t.tag (.ok b)) s) (close 1)) ∧
      (o.count + 1 ≠ o.length → ¬marks →
        Leads (exec (.byteRead t.tag (.ok b)) s)
          { s.setLine v.line { loaded with ownByte := loaded.holding.isSome } with
            visit := none
            mem := none
            seq := s.seq.afterVisit }))

/-- An error answer, or the timeout, of a fetch or a writeback records the fault, makes the line FAULTED with both
directions VACANT, inserts LINE_FAULT and ends the visit; one of a buffer byte records the fault and closes its order
BUS_FAULT. An abort pair is then owed for a frame that has started and not finished; it counts as finished when its
LAST byte enters the shifter (the model's reading, log entry 10). -/
def Obligations.MemoryFaultsFailTheLineOrCloseTheOrder : Prop :=
  ∀ (s : State) (v : Visit) (t : Txn), s.plainVisit v → s.mem = some t → t.line = v.line →
    let l := s.line v.line
    Line.atRest s l →
    let failed : Line :=
      { l with
        faulted := true
        rxOrder := none
        txOrder := none
        drainWait := false
        holdDue := false
        underrunDue := false
        breakDone := false
        remnant := false
        ownByte := false
        holding := none
        holdCount := 0
        holdStopped := false
        abortPending := l.abortPending || l.frameOpen }
    let record (cause : FaultCause) (u : State) : State :=
      { u with
        faultAddr := t.addr
        faultDesc :=
          { count := min 255 (s.faultDesc.count + 1), cause := some cause, access := t.access, line := v.line } }
    let e (cause : BitVec 7) : EventRec :=
      { kind := .lineFault, line := v.line, a := cause, b := BitVec.ofNat 8 (accessBits t.access), c := 0, age := 0 }
    let lineFails (cause : FaultCause) (code : BitVec 7) : State :=
      let u := record cause { s.setLine v.line failed with visit := none, mem := none, seq := s.seq.afterVisit }
      if s.events.length < 32 then { u with events := s.events ++ [e code] }
      else { u with overflow := true, lost := min 65535 (s.lost + 1) }
    let rxCloses (cause : FaultCause) (o : RxOrder) (value : Byte) (rest : List Entry) : State :=
      record cause
        ((s.setLine v.line
            { l with
              queue := rest
              pacing := pacingAfter l.pacing rest.length
              remnant := l.remnant || (o.mode == .frame && o.frameBegun)
              rxCancel := false }).issue v
          (.writeLength .rx (rxClosed o value 17)) (.wordWrite (o.count ++ o.length))
          (s.tableBase + BitVec.ofNat 32 (64 * v.line.val + 8)) .rxWriteback)
    (s.awaits t = true → l.frameOpen = false ∨ l.shifter ≠ .empty ∨ l.inHold = true → v.point.isBuffer = false →
      (t.request = .wordRead → Leads (exec (.wordRead t.tag .error) s) (lineFails .busError 1)) ∧
      (∀ w, t.request = .wordWrite w → Leads (exec (.wordWrite t.tag .error) s) (lineFails .busError 1))) ∧
    (s.holdsDue = false → 2 ≤ t.beats → l.frameOpen = false ∨ l.shifter ≠ .empty ∨ l.inHold = true →
      v.point.isBuffer = false →
      Leads (exec .timeout s) (lineFails .timeout 2)) ∧
    (∀ (quota : Nat) (o : RxOrder) (value b : Byte) (parity framing overrun : Bool) (classes : BitVec 4)
      (rest : List Entry), v.point = .storeByte quota → t.request = .byteWrite b → l.rxOrder = some o →
      o.mode ≠ .single → l.queue = .data value parity framing overrun classes :: rest →
      (s.awaits t = true → Leads (exec (.byteWrite t.tag .error) s) (rxCloses .busError o value rest)) ∧
      (s.holdsDue = false → 2 ≤ t.beats → Leads (exec .timeout s) (rxCloses .timeout o value rest))) ∧
    ∀ o : TxOrder, v.point = .loadByte → t.request = .byteRead → l.txOrder = some o →
      o.mode = .block ∨ o.mode = .frame →
      let started : Bool := o.mode == .frame && o.count != 0 && l.frameOpen
      let closes (cause : FaultCause) : State :=
        record cause
          ((s.setLine v.line
              { l with
                txCancel := false
                holdDue := false
                underrunDue := false
                breakDone := false
                drainWait := false
                ownByte := false
                abortPending := l.abortPending || started }).issue v
            (.writeLength .tx (txClosed o 0 17)) (.wordWrite (o.count ++ o.length))
            (s.tableBase + BitVec.ofNat 32 (64 * v.line.val + 0x18)) .txWriteback)
      started = false ∨ l.shifter ≠ .empty ∨ l.inHold = true →
      (s.awaits t = true → Leads (exec (.byteRead t.tag .error) s) (closes .busError)) ∧
      (s.holdsDue = false → 2 ≤ t.beats → Leads (exec .timeout s) (closes .timeout))

/-- An answer that carries no number of the outstanding transaction is discarded, and a timeout acts only at the second
beat boundary of an outstanding transaction. -/
def Obligations.LateAnswersAreDiscarded : Prop :=
  ∀ (s : State) (tag : Nat), s.settled = true → (∀ t, s.mem = some t → t.tag ≠ tag) →
    (∀ a, Leads (exec (.wordRead tag a) s) s) ∧ (∀ a, Leads (exec (.wordWrite tag a) s) s) ∧
    (∀ a, Leads (exec (.byteWrite tag a) s) s) ∧ (∀ a, Leads (exec (.byteRead tag a) s) s) ∧
    Leads (exec .timeout s) s

/-! ### The receiver -/

/-- A completion restarts the idle-gap timer. On a framed line the framed receive machine takes it with its error flags,
and an entry that joins ends a doze. On an asynchronous line DROP discards it, RELEASE and HOLD under INBAND act on the
in-band hold flag and are discarded, any other joins the queue with its error flags and classes and ends a doze, or
with eight entries queued is lost and marks the newest. -/
def Obligations.CompletionsJoinDropOrAreLost : Prop :=
  ∀ (n : LineNo) (data : Byte) (parityBit stopBit : Bool) (s : State), s.open = true →
    let l := s.line n
    l.receiver.phase = .assemble → l.receiver.loop = false → Line.atRest s l →
    let f := l.receiver.format
    let value := lineValue f data
    let parity := formatParity f && parityBit != parityFor f value
    let framing := !stopBit
    ¬(value = 0 ∧ (formatParity f && parityBit) = false ∧ stopBit = false) →
    let classes : BitVec 4 :=
      if parity = true ∨ framing = true then 0
      else if setClassB l.setting then (s.classTable[value.toNat]'value.isLt).extractLsb' 4 4
      else (s.classTable[value.toNat]'value.isLt).extractLsb' 0 4
    let heard : Line :=
      { l with
        receiver := { l.receiver with phase := .search, clocks := 0, before := l.loopLevel, samples := [] }
        idleStarted := true
        idleBits := 0
        idleClocks := 0
        idleDue := false }
    let r := exec (.completion n data parityBit stopBit) s
    let consumed := setInband l.setting = true ∧ (classes.getLsbD 1 = true ∨ classes.getLsbD 2 = true)
    (l.framed = true →
      let k := heard.receiveFramed (.char value parity framing)
      Leads r (if l.queue.length < k.queue.length then (s.setLine n k).endDoze else s.setLine n k)) ∧
    (l.framed = false →
    (classes.getLsbD 3 = true → Leads r (s.setLine n heard)) ∧
    (classes.getLsbD 3 = false → setInband l.setting = true → classes.getLsbD 2 = true →
      Leads r (s.setLine n (Line.tend s { heard with inbandHold := false }))) ∧
    (classes.getLsbD 3 = false → setInband l.setting = true → classes.getLsbD 2 = false →
      classes.getLsbD 1 = true →
      Leads r (s.setLine n { heard with inbandHold := true })) ∧
    (classes.getLsbD 3 = false → ¬consumed → l.queue.length < 8 →
      Leads r
        (s.setLine n
          { heard with
            queue := l.queue ++ [.data value parity framing false classes]
            pacing := pacingAfter l.pacing (l.queue.length + 1) }).endDoze) ∧
    ∀ q e, classes.getLsbD 3 = false → ¬consumed → l.queue = q ++ [e] → q.length = 7 →
      Leads r
        (s.setLine n
          { heard with
            queue := q ++ [match e with
              | .data x p g _ c => .data x p g true c
              | .brk _ => .brk true
              | .frameEnd st => .frameEnd st] }))

/-- A break restarts the idle-gap timer, and the receiver waits for mark. On a framed line the framed receive machine
takes it; on an asynchronous line it joins the queue as one BREAK entry and ends a doze, or is lost as a character would
be and marks the newest entry. A completion with every bit sampled at space is a break. -/
def Obligations.BreaksJoinAndWaitForMark : Prop :=
  ∀ (n : LineNo) (s : State), s.open = true →
    let l := s.line n
    l.receiver.phase = .assemble → l.receiver.loop = false → Line.atRest s l →
    let heard : Line :=
      { l with
        receiver := { l.receiver with phase := .recover, clocks := 0, before := l.loopLevel, samples := [] }
        idleStarted := true
        idleBits := 0
        idleClocks := 0
        idleDue := false }
    (l.framed = true → Leads (exec (.breakSeen n) s) (s.setLine n (heard.receiveFramed .brk))) ∧
    (l.framed = false → l.queue.length < 8 →
      Leads (exec (.breakSeen n) s)
        (s.setLine n
          { heard with
            queue := l.queue ++ [.brk false]
            pacing := pacingAfter l.pacing (l.queue.length + 1) }).endDoze) ∧
    (∀ data : Byte, lineValue l.receiver.format data = 0 →
      exec (.completion n data false false) s = exec (.breakSeen n) s) ∧
    ∀ q e, l.framed = false → l.queue = q ++ [e] → q.length = 7 →
      Leads (exec (.breakSeen n) s)
        (s.setLine n
          { heard with
            queue := q ++ [match e with
              | .data x p g _ c => .data x p g true c
              | .brk _ => .brk true
              | .frameEnd st => .frameEnd st] })

/-- The receiver's phases. A falling edge in SEARCH starts a character in the format in force at that instant (the
model's reading of R63, log entry 9); its start-bit sample goes on to ASSEMBLE at space and back to SEARCH at mark; the
mark waited for ends RECOVER. In loopback the transmitter's output is the input, RXD is ignored and TXD stays at mark.
Each of these instants, and a completion, then comes when that output brings it, whatever the row carries, and a row
that comes at another time changes nothing; the receiver assembles the levels of that output at the centres of its bits,
and what the transmitter sends in the receiver's format is what completes. On an empty queue the clock counts the
instants, and the next period carries out one that no row has told (log entries 3, 7 and 37). In other phases, and while
the clock is stopped or settling, the rows change nothing (log entry 2). -/
def Obligations.ReceiverPhasesFollowTheInput : Prop :=
  ∀ (n : LineNo) (row : Bool) (s : State), s.settled = true →
    let l := s.line n
    let r := l.receiver
    let f : Format := { setting := l.setting, divisor := rateDivisor (setRate l.setting) s.customDivisor }
    let level : Bool :=
      match l.shifter with
      | .sending t => !t.loop || ((characterLevels t.format t.char)[t.clocks / (t.format.divisor * 16)]?).getD true
      | .brk _ _ _ loop => !loop
      | .empty | .brkMark _ _ _ => true
    let become (q : Receiver) : State := s.setLine n { l with receiver := q }
    let searching : Receiver := { r with phase := .search, clocks := 0, before := level, samples := [] }
    let started : Receiver :=
      { r with phase := .start, format := f, loop := setLoop l.setting, clocks := 0, samples := [] }
    let assembling : Receiver := { r with phase := .assemble, samples := [false] }
    let falls : Prop := r.before = true ∧ level = false
    let sampling : Prop := r.format.divisor * (8 + 16 * r.samples.length) ≤ r.clocks
    let stop : Nat := 1 + formatBits r.format + (formatParity r.format).toNat
    let waits : Prop := r.phase = .recover ∨ r.phase = .wakeRecover
    let mark : Nat := if r.phase = .wakeRecover then characterClocks f else r.format.divisor * 16
    let tick : Nat := if r.phase = .wakeRecover then f.divisor else r.format.divisor
    let seen : Prop := level = true ∧ mark ≤ r.clocks
    let assembled : Completed :=
      completed r.format (BitVec.ofFnLE fun i : Fin 8 => (r.samples[1 + i.val]?).getD false)
        ((r.samples[1 + formatBits r.format]?).getD false) level
    (l.txdPin =
      match l.shifter with
      | .sending t => t.loop || ((characterLevels t.format t.char)[t.clocks / (t.format.divisor * 16)]?).getD true
      | .brk _ _ _ loop => loop
      | .empty | .brkMark _ _ _ => true) ∧
    (s.windowShut = true →
      Leads (exec (.fallingEdge n) s) s ∧ Leads (exec (.startBitSample n row) s) s ∧
        Leads (exec (.recoverEnd n) s) s) ∧
    (s.windowShut = false →
      (r.phase ≠ .search → Leads (exec (.fallingEdge n) s) s) ∧
      (r.phase = .search → setLoop l.setting = false ∨ falls → Leads (exec (.fallingEdge n) s) (become started)) ∧
      (r.phase = .search → setLoop l.setting = true → ¬falls → Leads (exec (.fallingEdge n) s) s) ∧
      (r.phase ≠ .start → Leads (exec (.startBitSample n row) s) s) ∧
      (r.phase = .start → r.loop = false →
        Leads (exec (.startBitSample n row) s) (become (if row then searching else assembling))) ∧
      (r.phase = .start → r.loop = true → sampling →
        Leads (exec (.startBitSample n row) s) (become (if level then searching else assembling))) ∧
      (r.phase = .start → r.loop = true → ¬sampling → Leads (exec (.startBitSample n row) s) s) ∧
      (waits → r.loop = false ∨ seen → Leads (exec (.recoverEnd n) s) (become searching)) ∧
      (¬waits ∨ (r.loop = true ∧ ¬seen) → Leads (exec (.recoverEnd n) s) s) ∧
      (∀ (data : Byte) (parityBit stopBit : Bool), r.phase = .assemble → r.loop = true →
        exec (.completion n data parityBit stopBit) s = exec (.breakSeen n) s ∧
          (stop ≤ r.samples.length → sampling →
            Leads (exec (.breakSeen n) s) (s.putLine n (Line.complete s l assembled))) ∧
          (¬(stop ≤ r.samples.length ∧ sampling) → Leads (exec (.breakSeen n) s) s)) ∧
      (∀ t : Transmission, l.shifter = .sending t → t.loop = true → t.format = r.format →
        (0 < t.format.divisor → t.clocks = t.format.divisor * (8 + 16 * r.samples.length) →
          level = ((characterLevels t.format t.char)[r.samples.length]?).getD true) ∧
        (r.samples = (characterLevels t.format t.char).take stop → level = true →
          assembled = .char (lineValue t.format t.char) false false)) ∧
      (s.pending = [] → s.beatClocks ≠ 7200 → l.sentOut = false →
        (s.power = .standbyEntry → ∀ m : LineNo, (s.line m).sentOut = false) →
        ∃ u, step s = .next u ∧
          let after := (u.line n).receiver
          let counted (q : Receiver) : Receiver := { q with clocks := q.clocks + 1 }
          (r.phase = .search → setLoop l.setting = false ∨ ¬falls → after = { r with before := level }) ∧
          (r.phase = .search → setLoop l.setting = true → falls → after = counted started) ∧
          (r.phase ≠ .search → r.loop = false → after = r) ∧
          (r.phase ≠ .search → r.loop = true →
            (r.phase = .start →
              after = if ¬sampling then counted r else if level then searching else counted assembling) ∧
            (r.phase = .assemble → ¬sampling → after = counted r) ∧
            (r.phase = .assemble → sampling → r.samples.length < stop →
              after = counted { r with samples := r.samples ++ [level] }) ∧
            (r.phase = .assemble → sampling → stop ≤ r.samples.length →
              let k := Line.complete s l assembled
              (u.line n).queue = k.queue ∧ (u.line n).frameRx = k.frameRx ∧
                after =
                  if assembled = .brk then counted { searching with phase := .recover }
                  else if level = true ∧ k.loopLevel = false then
                    counted { searching with phase := .start, format := f, loop := true }
                  else searching) ∧
            (waits → seen → after = searching) ∧
            (waits → ¬seen →
              after = counted { r with clocks := if level = false ∧ r.clocks % tick = 0 then 0 else r.clocks }))))

/-- The framed receive machine, from HUNT with an empty queue, turns the characters of a whole frame with a payload of
one to seven bytes into a DATA entry for each payload byte and a FRAME_END with status GOOD. -/
def Obligations.FramedReceiverRecoversThePayload : Prop :=
  ∀ (l : Line) (payload : List Byte), l.frameRx = .hunt → l.queue = [] → l.escapeChar ≠ l.markChar →
    l.escapeChar ≠ ~~~l.markChar → 1 ≤ payload.length → payload.length ≤ 7 →
    let r := (frameCharacters l.markChar l.escapeChar payload).foldl
      (fun l c => l.receiveFramed (.char c false false)) l
    r.queue = payload.map (fun b => .data b false false false 0) ++ [.frameEnd .good] ∧ r.frameRx = .collect ∧
      r.frameBytes = 0 ∧ r.framesDropped = l.framesDropped

/-- The framed receive machine's other endings (Table 29). A character with a wrong stop bit, a wrong parity bit or a
break condemns an open frame, and so does an ESCAPE after an ESCAPE; the next MARK then ends it with that status. A MARK
after an ESCAPE ends it ABORT_SEEN; a MARK with one or two bytes received ends it RUNT, and with three or more GOOD or
BAD_CRC by the CRC of the payload against the tail pair; with none it changes nothing. A byte that would queue a DATA
entry with seven or eight entries queued condemns the frame OVERRUN; a FRAME_END due into a full queue is dropped and
counted up to 255. In HUNT everything but a MARK is ignored, and in DISCARD too. -/
def Obligations.ErrorsPoisonAnOpenFrame : Prop :=
  ∀ (l : Line) (v : Byte) (parity framing : Bool), l.escapeChar ≠ l.markChar →
    let opened : Bool := l.frameRx == .collect || l.frameRx == .escaped
    let mark : Line := l.receiveFramed (.char l.markChar false false)
    let esc : Line := l.receiveFramed (.char l.escapeChar false false)
    let plain : Line := l.receiveFramed (.char v false false)
    let begun : Line := { l with frameRx := .collect, tail := [], frameBytes := 0, rxCrc := 0xFFFF }
    let ended (st : FrameStatus) : Line :=
      if l.queue.length < 8 then
        { begun with
          queue := l.queue ++ [.frameEnd st]
          pacing := pacingAfter l.pacing (l.queue.length + 1) }
      else { begun with framesDropped := min 255 (l.framesDropped + 1) }
    let poisoned (st : FrameStatus) : Line := { l with frameRx := .discard st, tail := [] }
    (opened = true → parity = true ∨ framing = true →
      l.receiveFramed (.char v parity framing) = poisoned (if framing then .framing else .parity)) ∧
    (opened = true → l.receiveFramed .brk = poisoned .brk) ∧
    (l.frameRx = .escaped → esc = poisoned .badEscape ∧ mark = ended .abortSeen) ∧
    (l.frameRx = .collect → esc = { l with frameRx := .escaped } ∧
      (l.frameBytes = 0 → mark = l) ∧
      (l.frameBytes = 1 ∨ l.frameBytes = 2 → mark = ended .runt) ∧
      ∀ older newer, 3 ≤ l.frameBytes → l.tail = [older, newer] →
        mark = ended (if l.rxCrc = older ++ newer then .good else .badCrc)) ∧
    (∀ st, l.frameRx = .discard st → mark = ended st ∧ esc = l ∧ (v ≠ l.markChar → plain = l) ∧
      (parity = true ∨ framing = true → l.receiveFramed (.char v parity framing) = l) ∧ l.receiveFramed .brk = l) ∧
    (l.frameRx = .hunt → mark = begun ∧ (v ≠ l.markChar → plain = l) ∧
      (parity = true ∨ framing = true → l.receiveFramed (.char v parity framing) = l) ∧ l.receiveFramed .brk = l) ∧
    (opened = true → v ≠ l.markChar → v ≠ l.escapeChar →
      let b : Byte := if l.frameRx = .escaped then ~~~v else v
      let counted : Line := { l with frameRx := .collect, frameBytes := min 3 (l.frameBytes + 1) }
      (l.tail = [] → plain = { counted with tail := [b] }) ∧
      (∀ older, l.tail = [older] → plain = { counted with tail := [older, b] }) ∧
      ∀ older newer, l.tail = [older, newer] →
        plain =
          if l.queue.length ≤ 6 then
            { counted with
              queue := l.queue ++ [.data older false false false 0]
              pacing := pacingAfter l.pacing (l.queue.length + 1)
              rxCrc := crcByte l.rxCrc older
              tail := [newer, b] }
          else poisoned .overrun)

/-! ### The transmitter -/

/-- The characters given to the shifter for the payload bytes of a frame, one after the other, are the characters of the
whole frame. -/
def Obligations.TransmitterSendsTheWholeFrame : Prop :=
  ∀ (l : Line) (f : Format) (payload : List Byte), payload ≠ [] →
    l.framesOut f (payloadHoldings true payload) = frameCharacters l.markChar l.escapeChar payload

/-- The shifter's end. The whole of what was left to send has gone out (the model's reading of an early row, log entry
8); on the loopback route a row that comes before the last character has lasted its time changes nothing (entry 40). An
owed abort pair goes first, and a framed line in the payload phase without its next payload byte sends one and raises
UNDERRUN_DUE; a payload byte of a framed line enters as its expanded sequence, any other byte as one character; in hold
state, and with nothing to send, the shifter stays empty. Between commands the clock starts the next character of a
sequence when the one before it has lasted its time, with the frame characters and the route then in force, and
TXF_PHASE and the CRC follow it (log entry 3): an expanded sequence keeps the format its first character started in,
and its rate with it (the model's choice, log entry 34), any other character takes the format in force. A sequence
whose last character has lasted its time ends with the next period where no row has ended it. That a character starts
in the clock period in which it enters the shifter, whatever the phase of the line's sample ticks, is the model's
choice (log entry 37), and so is it that the bit period of mark after a break keeps the break's rate (log entry 41). -/
def Obligations.ShifterTakesTheNextByteOrEmpties : Prop :=
  ∀ (n : LineNo) (s : State), s.open = true →
    let l := s.line n
    let f : Format := { setting := l.setting, divisor := rateDivisor (setRate l.setting) s.customDivisor }
    (Line.atRest s l → ∀ t : Transmission, l.shifter = .sending t →
      let gone : Line := { l with shifter := .empty, txCrc := t.rest.foldl pieceCrc l.txCrc }
      let r := exec (.shifterEmpty n) s
      let early : Prop :=
        (t.loop = true ∨ (t.rest ≠ [] ∧ setLoop l.setting = true)) ∧
          (t.rest ≠ [] ∨ t.clocks < characterClocks t.format)
      (early → Leads r s) ∧ (¬early →
      (s.seq = .quiesced → l.abortPending = false → l.holding = none →
        Leads r (s.setLine n { gone with txPhase := .idle })) ∧
      (s.seq ≠ .quiesced → l.inHold = true →
        Leads r
          (s.setLine n
            { gone with
              txPhase :=
                match t.what with
                | .character => l.txPhase
                | .frame false => .payload
                | .frame true | .abortPair => .idle })) ∧
      (s.seq ≠ .quiesced → l.inHold = false → l.abortPending = true →
        Leads r
          (s.setLine n
            { gone with
              abortPending := false
              txPhase := .abort
              shifter := l.starting .abortPair l.escapeChar [.plain l.markChar] f })) ∧
      (s.seq ≠ .quiesced → l.inHold = false → l.abortPending = false →
        t.what = .frame false ∨ (t.what = .character ∧ l.txPhase = .payload) →
        (∀ h, l.holding = some h → h.source ≠ .order) →
        Leads r
          (s.setLine n
            { gone with
              underrunDue := true
              txPhase := .abort
              shifter := l.starting .abortPair l.escapeChar [.plain l.markChar] f })) ∧
      (s.seq ≠ .quiesced → l.inHold = false → l.abortPending = false → ∀ h, l.holding = some h → l.framed = true →
        h.source = .order →
        let trailer : List Piece := if h.last then [.crcHigh, .crcLow, .closing] else []
        let entered : Line := { gone with holding := none, ownByte := false }
        (h.first = true →
          Leads r
            (s.setLine n
              { entered with
                txPhase := .opening
                txCrc := 0xFFFF
                shifter := l.starting (.frame h.last) l.markChar (.payload h.byte :: trailer) f })) ∧
        (h.first = false →
          Leads r
            (s.setLine n
              { entered with
                txPhase := .payload
                txCrc := crcByte (t.rest.foldl pieceCrc l.txCrc) h.byte
                shifter :=
                  if h.byte = l.markChar ∨ h.byte = l.escapeChar then
                    l.starting (.frame h.last) l.escapeChar (.plain (~~~h.byte) :: trailer) f
                  else l.starting (.frame h.last) h.byte trailer f }))) ∧
      (s.seq ≠ .quiesced → l.abortPending = false → t.what = .character → l.txPhase ≠ .payload →
        (l.holding = none → Leads r (s.setLine n gone)) ∧
        (∀ h, l.holding = some h → l.inHold = false → l.framed = false ∨ h.source ≠ .order →
          Leads r
            (s.setLine n
              { gone with
                holding := none
                ownByte := false
                shifter := l.starting .character h.byte [] f }))) ∧
      (l.abortPending = false → t.what = .abortPair ∨ t.what = .frame true → l.holding = none →
        Leads r (s.setLine n { gone with txPhase := .idle })))) ∧
    (Line.atRest s l → ∀ g clocks loop, l.shifter = .brkMark g clocks loop →
      (loop = true → clocks < g.divisor * 16 → Leads (exec (.shifterEmpty n) s) s) ∧
      (loop = false ∨ g.divisor * 16 ≤ clocks → l.holding = none → l.abortPending = false → l.txPhase ≠ .payload →
        Leads (exec (.shifterEmpty n) s) (s.setLine n { l with shifter := .empty }))) ∧
    (l.shifter = .empty ∨ (∃ times g clocks loop, l.shifter = .brk times g clocks loop) →
      Leads (exec (.shifterEmpty n) s) s) ∧
    (s.pending = [] → s.beatClocks ≠ 7200 → ∀ g clocks loop, l.shifter = .brkMark g clocks loop →
      ∃ u, step s = .next u ∧
        (clocks < g.divisor * 16 → (u.line n).shifter = .brkMark g (clocks + 1) loop) ∧
        (g.divisor * 16 ≤ clocks → l.holding = none → l.abortPending = false → l.txPhase ≠ .payload →
          (u.line n).shifter = .empty)) ∧
    (s.pending = [] → s.beatClocks ≠ 7200 → ∀ t : Transmission, l.shifter = .sending t → ∃ u, step s = .next u ∧
      (t.rest = [] → characterClocks t.format ≤ t.clocks → l.holding = none → l.abortPending = false →
        t.what = .abortPair ∨ t.what = .frame true ∨ (t.what = .character ∧ l.txPhase ≠ .payload) →
        (u.line n).shifter = .empty ∧
          (u.line n).txPhase =
            if t.what = .character ∧ s.seq ≠ .quiesced then l.txPhase else .idle) ∧
      (t.clocks < characterClocks t.format → t.rest = [] ∨ t.clocks + 1 < characterClocks t.format →
        (u.line n).txPhase = l.txPhase ∧ (u.line n).txCrc = l.txCrc ∧
          (u.line n).shifter = .sending { t with clocks := min (characterClocks t.format) (t.clocks + 1) }) ∧
      ∀ p more, t.rest = p :: more → characterClocks t.format ≤ t.clocks + 1 →
        let chars : List Byte :=
          match p with
          | .opening | .closing => [l.markChar]
          | .payload b => stuffed l.markChar l.escapeChar b
          | .crcHigh => stuffed l.markChar l.escapeChar (l.txCrc.extractLsb' 8 8)
          | .crcLow => stuffed l.markChar l.escapeChar (l.txCrc.extractLsb' 0 8)
          | .plain b => [b]
        let format : Format :=
          match t.what with
          | .frame _ => t.format
          | .character | .abortPair => f
        (u.line n).shifter = l.starting t.what (chars.headD 0) (chars.tail.map Piece.plain ++ more) format ∧
          (u.line n).txCrc =
            (match p with
            | .opening => 0xFFFF
            | .payload b => crcByte l.txCrc b
            | .crcHigh | .crcLow | .closing | .plain _ => l.txCrc) ∧
          (u.line n).txPhase =
            match p with
            | .opening => .opening
            | .payload _ => .payload
            | .crcHigh => .crcHi
            | .crcLow => .crcLo
            | .closing => .close
            | .plain _ => l.txPhase)

/-- A generated break ends in a bit period of mark, of the break's own format and rate (the model's choice, log entry
41), and raises BREAK_DONE while a transmit order is ACTIVE; between commands it is counted and ends with the next
period after its length where no row has ended it (log entry 3), and on the loopback route no row ends it before (entry
40). The idle-gap timer's limit raises IDLE_DUE and ends a doze, and between commands a timer that runs counts bit
periods of the line's rate up to its limit, where it sets IDLE_DUE with the next period if no row has, and with the
clock stopped by an entry into STANDBY it keeps its count (log entry 3; what a change of rate makes of a bit period is
the model's choice, entry 33); a completion of a looped receiver at that instant wins and restarts it. A hold timer
that has reached its limit raises HOLD_DUE. An instant that the line cannot meet changes nothing (log entry 2). -/
def Obligations.BreakIdleAndHoldConditionsFallDue : Prop :=
  ∀ (n : LineNo) (s : State),
    let l := s.line n
    let f : Format := { setting := l.setting, divisor := rateDivisor (setRate l.setting) s.customDivisor }
    let runs : Prop := l.idleStarted = true ∧ setIdleGap l.setting ≠ 0
    let completing : Prop := l.receiver.loop = true ∧ l.completes = true
    (s.open = true → ∀ times g clocks loop, l.shifter = .brk times g clocks loop →
      (loop = false ∨ times.toNat * characterClocks g ≤ clocks →
        Leads (exec (.breakDone n) s)
          (s.setLine n { l with shifter := .brkMark g 0 loop, breakDone := l.breakDone || l.txOrder.isSome })) ∧
      (loop = true → clocks < times.toNat * characterClocks g → Leads (exec (.breakDone n) s) s) ∧
      (s.pending = [] → s.beatClocks ≠ 7200 → ∃ u, step s = .next u ∧
        (clocks < times.toNat * characterClocks g →
          (u.line n).shifter = .brk times g (clocks + 1) loop ∧ (u.line n).breakDone = l.breakDone) ∧
        (times.toNat * characterClocks g ≤ clocks → 0 < g.divisor →
          (u.line n).shifter = .brkMark g 1 loop ∧ (u.line n).breakDone = (l.breakDone || l.txOrder.isSome)))) ∧
    (s.open = true → (∀ times g clocks loop, l.shifter ≠ .brk times g clocks loop) →
      Leads (exec (.breakDone n) s) s) ∧
    (s.open = true → runs →
      Leads (exec (.idleDue n) s) (s.setLine n { l with idleStarted := false, idleDue := true }).endDoze) ∧
    (s.open = true → ¬runs → Leads (exec (.idleDue n) s) s) ∧
    (s.open = true → s.pending = [] → s.beatClocks ≠ 7200 → ¬completing → ∃ u, step s = .next u ∧
      (runs → setIdleGap l.setting * bitPeriods f ≤ l.idleBits →
        (u.line n).idleDue = true ∧ (u.line n).idleStarted = false ∧ u.power ≠ .doze) ∧
      (s.power ≠ .standbyEntry ∨ (∀ m : LineNo, (s.line m).sentOut = false) → u.power ≠ .standby) ∧
      (runs → l.idleBits < setIdleGap l.setting * bitPeriods f →
        ((u.line n).idleBits, (u.line n).idleClocks) =
          if u.power = .standby then (l.idleBits, l.idleClocks)
          else if l.idleClocks + 1 < f.divisor * 16 then (l.idleBits, l.idleClocks + 1)
          else (l.idleBits + 1, 0)) ∧
      (¬runs ∨ setIdleGap l.setting * bitPeriods f ≤ l.idleBits →
        ((u.line n).idleBits, (u.line n).idleClocks) = (l.idleBits, l.idleClocks))) ∧
    (s.open = true → s.pending = [] → s.beatClocks ≠ 7200 → completing → ∃ u, step s = .next u ∧
      (u.line n).idleDue = false ∧ (u.line n).idleStarted = true) ∧
    Leads (exec (.holdDue n) s)
      (if l.holdReached then s.setLine n { l with holdReached := false, holdDue := true } else s)

/-! ### The timebase -/

/-- A beat boundary advances the cadence, the resweep timer, the guard, the ages of the records and the outstanding
transaction by one, samples every SENSE source, ends a doze where a level is accepted, and begins a new beat; a hold
timer whose three conditions hold counts it, and with HOLD_LIMIT nonzero stops at the limit; the idle watch counts it
where the idle condition holds on both sides of it (how the watch counts is the model's reading, log entry 22). Where
an accepted level ends hold state with the shifter free, the transmitter acts at once: an owed abort pair, an underrun,
or the byte in holding. None occurs while the clock is stopped or settling. The marks that keep a level accepted at
this instant apart are the model's (log entries 31 and 32). That a boundary whose own SENSE level ends a doze does not
count for the resweep is the model's choice (entry 35). -/
def Obligations.BeatBoundariesCountAndSample : Prop :=
  ∀ (pins : BitVec 16) (s : State), s.settled = true →
    (s.windowShut = true → Leads (exec (.beatBoundary pins) s) s) ∧
    (s.windowShut = false → ∃ t, exec (.beatBoundary pins) s = .next t ∧
      let level (n : LineNo) : Bool :=
        if setLoop (s.line n).setting then (s.line n).ctlInternal else pins.getLsbD n.val
      let accepted (n : LineNo) : Prop := (s.line n).sensePrev = .sample (level n) ∧ level n ≠ (s.line n).sense
      let doze : Prop := s.power = .doze ∧ ∃ n, accepted n
      t = { s with
        lines := t.lines
        beatClocks := 0
        sensePins := pins
        mem := s.mem.map fun x => { x with beats := x.beats + 1 }
        events := s.events.map fun e => { e with age := min 255 (e.age + 1) }
        cadenceCount := if s.cadence = 0 then s.cadenceCount else s.cadenceCount + 1
        resweepCount :=
          if s.resweep ≠ 0 ∧ s.power = .active ∧ s.quiet = false then s.resweepCount + 1 else s.resweepCount
        guardCount :=
          if s.livenessEn = true ∧ s.guardRunning = true ∧ s.quiet = false then s.guardCount - 1 else s.guardCount
        power := t.power
        req := t.req
        idleBeats := if s.watchedIdle = true ∧ t.watchedIdle = true then min 2 (s.idleBeats + 1) else 0
        dozeBarred := t.dozeBarred } ∧
      (t.dozeBarred = true ↔ ∃ n, accepted n) ∧
      (doze → t.power = .active ∧ t.req = .active) ∧ (¬doze → t.power = s.power ∧ t.req = s.req) ∧
      ∀ n : LineNo,
        let l := s.line n
        let l' := t.line n
        let counts : Prop :=
          l.inHold = true ∧ l.txOrder.isSome = true ∧ l.holding.isSome = true ∧ setHoldLimit l.setting ≠ 0 ∧
            l.holdStopped = false
        l'.sensePrev = .sample (level n) ∧
        (l.sensePrev = .afterReset → l'.sense = level n ∧ l'.lastReported = level n ∧
          l'.statusPending = l.statusPending ∧ l'.changeCount = l.changeCount) ∧
        (accepted n → l'.sense = level n ∧ l'.statusPending = true ∧
          l'.changeCount = min 255 (l.changeCount + 1) ∧ l'.countBefore = some l.changeCount ∧
          l'.lastReported = l.lastReported) ∧
        (¬accepted n → l.sensePrev ≠ .afterReset → l'.sense = l.sense ∧ l'.statusPending = l.statusPending ∧
          l'.changeCount = l.changeCount ∧ l'.countBefore = none ∧ l'.lastReported = l.lastReported) ∧
        (counts → l'.holdReached = decide (setHoldLimit l.setting * 64 ≤ l.holdCount + 1) ∧
          (l'.inHold = true → Line.atRest s l → l'.holdCount = l.holdCount + 1 ∧ l'.holdStopped = l'.holdReached)) ∧
        (¬counts → l'.holdReached = false ∧
          (l'.inHold = true → Line.atRest s l → l'.holdCount = l.holdCount ∧ l'.holdStopped = l.holdStopped)) ∧
        (l'.inHold = false ∨ l'.txOrder = none ∨ l'.holding = none → l'.holdCount = 0 ∧ l'.holdStopped = false) ∧
        l'.queue = l.queue ∧ l'.rxOrder = l.rxOrder ∧ l'.txOrder = l.txOrder ∧ l'.attn = l.attn ∧
        l'.setting = l.setting ∧ l'.receiver = l.receiver ∧ l'.faulted = l.faulted ∧
        (Line.atRest s l →
          let f : Format := { setting := l.setting, divisor := rateDivisor (setRate l.setting) s.customDivisor }
          let sends : Shifter × Option Holding × Bool × TxPhase × BitVec 16 × Bool × Bool :=
            (l'.shifter, l'.holding, l'.ownByte, l'.txPhase, l'.txCrc, l'.abortPending, l'.underrunDue)
          let pair : Shifter := l.starting .abortPair l.escapeChar [.plain l.markChar] f
          let released : Prop := l.shifter = .empty ∧ l.inHold = true ∧ l'.inHold = false
          (¬released →
            sends = (l.shifter, l.holding, l.ownByte, l.txPhase, l.txCrc, l.abortPending, l.underrunDue)) ∧
          (released → l.abortPending = true →
            sends = (pair, l.holding, l.ownByte, .abort, l.txCrc, false, l.underrunDue)) ∧
          (released → l.abortPending = false →
            (l.txPhase = .payload → s.seq ≠ .quiesced → (∀ h, l.holding = some h → h.source ≠ .order) →
              sends = (pair, l.holding, l.ownByte, .abort, l.txCrc, false, true)) ∧
            (l.txPhase ≠ .payload ∨ s.seq = .quiesced → l.holding = none →
              sends = (.empty, none, l.ownByte, l.txPhase, l.txCrc, false, l.underrunDue)) ∧
            ∀ h, l.holding = some h →
              (l.txPhase ≠ .payload ∨ s.seq = .quiesced → l.framed = false ∨ h.source ≠ .order →
                sends =
                  (l.starting .character h.byte [] f, none, false, l.txPhase, l.txCrc, false, l.underrunDue)) ∧
              (l.framed = true → h.source = .order →
                let trailer : List Piece := if h.last then [.crcHigh, .crcLow, .closing] else []
                (h.first = true →
                  sends =
                    (l.starting (.frame h.last) l.markChar (.payload h.byte :: trailer) f, none, false, .opening, 0xFFFF,
                      false, l.underrunDue)) ∧
                (h.first = false →
                  sends =
                    (if h.byte = l.markChar ∨ h.byte = l.escapeChar then
                        l.starting (.frame h.last) l.escapeChar (.plain (~~~h.byte) :: trailer) f
                      else l.starting (.frame h.last) h.byte trailer f,
                      none, false, .payload, crcByte l.txCrc h.byte, false, l.underrunDue))))))

/-- TICK is set when the cadence count reaches CADENCE, a tick still set being counted in MISSED up to 15, and the
count restarts; a resweep sets ATTN on every line that is not FAULTED and restarts its count. That a resweep which has
come to its count at the guard's expiry still sets ATTN in QUIESCING and QUIESCED is the model's choice (log entry 36).
-/
def Obligations.CadenceTicksAndResweepsRestart : Prop :=
  ∀ s : State,
    Leads (exec .tick s)
      (if s.cadence ≠ 0 ∧ s.cadence.toNat ≤ s.cadenceCount then
        { s with tick := true, missed := if s.tick then min 15 (s.missed + 1) else s.missed, cadenceCount := 0 }
      else s) ∧
    (s.resweep ≠ 0 ∧ s.resweep.toNat ≤ s.resweepCount → ∃ t, exec .resweepExpiry s = .next t ∧
      t.agrees { s with lines := t.lines, resweepCount := 0 } ∧
      ∀ n : LineNo, t.line n = if (s.line n).faulted then s.line n else { s.line n with attn := true }) ∧
    (s.resweep = 0 ∨ s.resweepCount < s.resweep.toNat → Leads (exec .resweepExpiry s) s)

/-- The guard's expiry sets ALERT_LIVENESS, stops the counter, inserts LIVENESS and ends a doze; a visit in progress
moves the sequencer to QUIESCING, otherwise it is QUIESCED at once, a standby entry is abandoned and every line's
holding is discarded. That TXF_PHASE then stands at IDLE where the shifter is empty is the model's reading (log entry
11). -/
def Obligations.GuardExpiryQuiescesThePart : Prop :=
  ∀ s : State, s.holdsDue = false → s.timeoutDue = false → s.windowShut = false →
    (s.guardDue = false → Leads (exec .guardExpiry s) s) ∧
    (s.guardDue = true →
      let e : EventRec := { kind := .liveness, line := 0, a := 0, b := 0, c := 0, age := 0 }
      let told : State :=
        if s.events.length < 32 then { s with events := s.events ++ [e] }
        else { s with overflow := true, lost := min 65535 (s.lost + 1) }
      (∀ v, s.visit = some v → s.power = .active →
        Leads (exec .guardExpiry s)
          { told with alertLiveness := true, guardRunning := false, seq := .quiescing }) ∧
      (s.visit = none → ∃ t, exec .guardExpiry s = .next t ∧
        t.agrees
          { told with
            alertLiveness := true
            guardRunning := false
            seq := .quiesced
            power := .active
            req := if s.power = .active then s.req else .active
            lines := t.lines } ∧
        ∀ n : LineNo, t.line n =
          { s.line n with
            holding := none
            ownByte := false
            abortPending := false
            txPhase := if (s.line n).shifter = .empty then .idle else (s.line n).txPhase
            holdCount := 0
            holdStopped := false }))

/-! ### The power manager -/

/-- An idle condition held across two beat boundaries enters DOZE; a drained part in STANDBY_ENTRY without a transaction
enters STANDBY, latching WAKE_EN and LOOP of every line and abandoning the characters being received. Before that the
two instants change nothing. A doze that falls due at an instant at which a SENSE level was accepted ends at once, with
REQ = ACTIVE (the order of that instant is the model's reading of R159, log entry 31). -/
def Obligations.DozeAndStandbyAreEnteredWhenDue : Prop :=
  ∀ s : State, s.timersSettled = true →
    Leads (exec .automaticDoze s)
      (if s.autoDoze = true ∧ s.power = .active ∧ s.seq = .running ∧ s.idleCondition = true ∧
          2 ≤ s.idleBeats ∧ s.visit = none ∧ s.anyTxActive = false then
        { s with
          power := if s.dozeBarred then .active else .doze
          req := if s.dozeBarred then .active else s.req }
      else s) ∧
    (s.power = .standbyEntry → s.allDrained = true → s.mem = none → ∃ t, exec .standby s = .next t ∧
      t.agrees
        { s with
          lines := t.lines
          power := .standby
          wakeEn := t.wakeEn
          wakeLoop := t.wakeLoop
          wakeStart := 0
          wakeSense := 0
          dozeBarred := false } ∧
      ∀ n : LineNo, t.wakeEn.getLsbD n.val = setWakeEn (s.line n).setting ∧
        t.wakeLoop.getLsbD n.val = setLoop (s.line n).setting ∧
        t.line n =
          if (s.line n).receiver.phase = .start ∨ (s.line n).receiver.phase = .assemble then
            { s.line n with
              receiver := { (s.line n).receiver with phase := .search, clocks := 0, before := true, samples := [] }
              countBefore := none }
          else { s.line n with countBefore := none }) ∧
    (s.settled = true → Leads (exec .standby s) s)

/-- An edge wakes the part only in STANDBY and only on a line with WAKE_EN latched and LOOP not; the end of WAKING
performs a held HOST_RESET, or returns the part to ACTIVE with one WAKE event for every line whose edge woke it, in
ascending line order, restarts the beat divider, and puts every receiver into wake recovery. A previous SENSE sample is
discarded; a line that has had none since a reset still takes its first sample as a reset's first (the model's reading,
log entry 17). What a held HOST_RESET gives internal fields and keeps of the model's own is the model's choice (log
entries 21 and 26). -/
def Obligations.WakeEdgesWakeAndWakingEnds : Prop :=
  (∀ (starts senses : BitVec 16) (s : State), s.settled = true →
    let armed : BitVec 16 := s.wakeEn &&& ~~~s.wakeLoop
    (s.power = .standby → (∃ n : LineNo, armed.getLsbD n.val = true ∧
        (starts.getLsbD n.val = true ∨ senses.getLsbD n.val = true)) →
      Leads (exec (.wakeEdge starts senses) s)
        { s with power := .waking, wakeStart := starts &&& armed, wakeSense := senses &&& armed }) ∧
    (s.power ≠ .standby ∨ (∀ n : LineNo, armed.getLsbD n.val = true →
        starts.getLsbD n.val = false ∧ senses.getLsbD n.val = false) →
      Leads (exec (.wakeEdge starts senses) s) s)) ∧
    ∀ s : State, s.settled = true →
      (s.power ≠ .waking → Leads (exec .wakingEnd s) s) ∧
      (s.power = .waking → s.resetHeld = true → Leads (exec .wakingEnd s) s.hostReset) ∧
      (s.power = .waking → s.resetHeld = false → s.portOk → ∃ t, exec .wakingEnd s = .next t ∧
        let woke : List LineNo :=
          (List.finRange 16).filter fun n => s.wakeStart.getLsbD n.val || s.wakeSense.getLsbD n.val
        let report (n : LineNo) : EventRec :=
          { kind := .wake, line := n
            a := 0#5 ++ BitVec.ofBool (s.wakeSense.getLsbD n.val) ++ BitVec.ofBool (s.wakeStart.getLsbD n.val)
            b := 0, c := 0, age := 0 }
        t.agrees
          { s with
            power := .active
            req := .active
            beatClocks := 0
            settleClocks := 0
            lines := t.lines
            events := s.events ++ (woke.map report).take (32 - s.events.length)
            overflow := t.overflow
            lost := t.lost } ∧
        (t.overflow = true ↔ s.overflow = true ∨ 32 < s.events.length + woke.length) ∧
        t.lost = min 65535 (s.lost + (s.events.length + woke.length - 32)) ∧
        ∀ n : LineNo, t.line n =
          { s.line n with
            receiver :=
              { (s.line n).receiver with
                phase := .wakeRecover
                loop :=
                  if (s.line n).receiver.phase = .search then setLoop (s.line n).setting else (s.line n).receiver.loop
                clocks := 0
                samples := [] }
            sensePrev := if (s.line n).sensePrev = .afterReset then .afterReset else .discarded })
end

