-- ==== Sys2Proof/Laws/State.lean ====
section
/-! SUPPORT. The fields of a state after each plain update, one lemma per field: later proofs rewrite with these and
unfold no record update. -/

namespace Sys2Proof.Machine

variable (s : State)

/-- `onLine` is `setLine` of the changed line. -/
@[simp] theorem State.onLine_eq (n : LineNo) (f : Line → Line) : s.onLine n f = s.setLine n (f (s.line n)) := rfl

/-! ### `setLine` -/

@[simp] theorem State.setLine_eventIe (n : LineNo) (l : Line) : (s.setLine n l).eventIe = s.eventIe := rfl
@[simp] theorem State.setLine_tickIe (n : LineNo) (l : Line) : (s.setLine n l).tickIe = s.tickIe := rfl
@[simp] theorem State.setLine_conRxIe (n : LineNo) (l : Line) : (s.setLine n l).conRxIe = s.conRxIe := rfl
@[simp] theorem State.setLine_conTxIe (n : LineNo) (l : Line) : (s.setLine n l).conTxIe = s.conTxIe := rfl
@[simp] theorem State.setLine_alertIe (n : LineNo) (l : Line) : (s.setLine n l).alertIe = s.alertIe := rfl
@[simp] theorem State.setLine_cmdIgnored (n : LineNo) (l : Line) : (s.setLine n l).cmdIgnored = s.cmdIgnored := rfl
@[simp] theorem State.setLine_writeIgnored (n : LineNo) (l : Line) :
    (s.setLine n l).writeIgnored = s.writeIgnored := rfl
@[simp] theorem State.setLine_tableBase (n : LineNo) (l : Line) : (s.setLine n l).tableBase = s.tableBase := rfl
@[simp] theorem State.setLine_customDivisor (n : LineNo) (l : Line) :
    (s.setLine n l).customDivisor = s.customDivisor := rfl
@[simp] theorem State.setLine_lineSelect (n : LineNo) (l : Line) : (s.setLine n l).lineSelect = s.lineSelect := rfl
@[simp] theorem State.setLine_classIndex (n : LineNo) (l : Line) : (s.setLine n l).classIndex = s.classIndex := rfl
@[simp] theorem State.setLine_classTable (n : LineNo) (l : Line) : (s.setLine n l).classTable = s.classTable := rfl
@[simp] theorem State.setLine_seq (n : LineNo) (l : Line) : (s.setLine n l).seq = s.seq := rfl
@[simp] theorem State.setLine_position (n : LineNo) (l : Line) : (s.setLine n l).position = s.position := rfl
@[simp] theorem State.setLine_visit (n : LineNo) (l : Line) : (s.setLine n l).visit = s.visit := rfl
@[simp] theorem State.setLine_lines (n : LineNo) (l : Line) : (s.setLine n l).lines = s.lines.set n l := rfl
@[simp] theorem State.setLine_mem (n : LineNo) (l : Line) : (s.setLine n l).mem = s.mem := rfl
@[simp] theorem State.setLine_faultAddr (n : LineNo) (l : Line) : (s.setLine n l).faultAddr = s.faultAddr := rfl
@[simp] theorem State.setLine_faultDesc (n : LineNo) (l : Line) : (s.setLine n l).faultDesc = s.faultDesc := rfl
@[simp] theorem State.setLine_events (n : LineNo) (l : Line) : (s.setLine n l).events = s.events := rfl
@[simp] theorem State.setLine_overflow (n : LineNo) (l : Line) : (s.setLine n l).overflow = s.overflow := rfl
@[simp] theorem State.setLine_lost (n : LineNo) (l : Line) : (s.setLine n l).lost = s.lost := rfl
@[simp] theorem State.setLine_tick (n : LineNo) (l : Line) : (s.setLine n l).tick = s.tick := rfl
@[simp] theorem State.setLine_missed (n : LineNo) (l : Line) : (s.setLine n l).missed = s.missed := rfl
@[simp] theorem State.setLine_threshold (n : LineNo) (l : Line) : (s.setLine n l).threshold = s.threshold := rfl
@[simp] theorem State.setLine_ageLimit (n : LineNo) (l : Line) : (s.setLine n l).ageLimit = s.ageLimit := rfl
@[simp] theorem State.setLine_beatClocks (n : LineNo) (l : Line) : (s.setLine n l).beatClocks = s.beatClocks := rfl
@[simp] theorem State.setLine_sensePins (n : LineNo) (l : Line) : (s.setLine n l).sensePins = s.sensePins := rfl
@[simp] theorem State.setLine_cadence (n : LineNo) (l : Line) : (s.setLine n l).cadence = s.cadence := rfl
@[simp] theorem State.setLine_cadenceCount (n : LineNo) (l : Line) :
    (s.setLine n l).cadenceCount = s.cadenceCount := rfl
@[simp] theorem State.setLine_resweep (n : LineNo) (l : Line) : (s.setLine n l).resweep = s.resweep := rfl
@[simp] theorem State.setLine_resweepCount (n : LineNo) (l : Line) :
    (s.setLine n l).resweepCount = s.resweepCount := rfl
@[simp] theorem State.setLine_livenessEn (n : LineNo) (l : Line) : (s.setLine n l).livenessEn = s.livenessEn := rfl
@[simp] theorem State.setLine_livenessPeriod (n : LineNo) (l : Line) :
    (s.setLine n l).livenessPeriod = s.livenessPeriod := rfl
@[simp] theorem State.setLine_guardCount (n : LineNo) (l : Line) : (s.setLine n l).guardCount = s.guardCount := rfl
@[simp] theorem State.setLine_guardRunning (n : LineNo) (l : Line) :
    (s.setLine n l).guardRunning = s.guardRunning := rfl
@[simp] theorem State.setLine_firstKey (n : LineNo) (l : Line) : (s.setLine n l).firstKey = s.firstKey := rfl
@[simp] theorem State.setLine_alertLiveness (n : LineNo) (l : Line) :
    (s.setLine n l).alertLiveness = s.alertLiveness := rfl
@[simp] theorem State.setLine_power (n : LineNo) (l : Line) : (s.setLine n l).power = s.power := rfl
@[simp] theorem State.setLine_req (n : LineNo) (l : Line) : (s.setLine n l).req = s.req := rfl
@[simp] theorem State.setLine_autoDoze (n : LineNo) (l : Line) : (s.setLine n l).autoDoze = s.autoDoze := rfl
@[simp] theorem State.setLine_idleBeats (n : LineNo) (l : Line) : (s.setLine n l).idleBeats = s.idleBeats := rfl
@[simp] theorem State.setLine_wakeEn (n : LineNo) (l : Line) : (s.setLine n l).wakeEn = s.wakeEn := rfl
@[simp] theorem State.setLine_wakeLoop (n : LineNo) (l : Line) : (s.setLine n l).wakeLoop = s.wakeLoop := rfl
@[simp] theorem State.setLine_wakeStart (n : LineNo) (l : Line) : (s.setLine n l).wakeStart = s.wakeStart := rfl
@[simp] theorem State.setLine_wakeSense (n : LineNo) (l : Line) : (s.setLine n l).wakeSense = s.wakeSense := rfl
@[simp] theorem State.setLine_resetHeld (n : LineNo) (l : Line) : (s.setLine n l).resetHeld = s.resetHeld := rfl
@[simp] theorem State.setLine_settleClocks (n : LineNo) (l : Line) :
    (s.setLine n l).settleClocks = s.settleClocks := rfl
@[simp] theorem State.setLine_txLost (n : LineNo) (l : Line) : (s.setLine n l).txLost = s.txLost := rfl
@[simp] theorem State.setLine_dozeBarred (n : LineNo) (l : Line) : (s.setLine n l).dozeBarred = s.dozeBarred := rfl
@[simp] theorem State.setLine_busData (n : LineNo) (l : Line) : (s.setLine n l).busData = s.busData := rfl
@[simp] theorem State.setLine_txnCount (n : LineNo) (l : Line) : (s.setLine n l).txnCount = s.txnCount := rfl
@[simp] theorem State.setLine_pending (n : LineNo) (l : Line) : (s.setLine n l).pending = s.pending := rfl

/-! ### `onLines` -/

@[simp] theorem State.onLines_eventIe (f : LineNo → Line → Line) :
    (s.onLines f).eventIe = s.eventIe := by simp only [State.onLines]
@[simp] theorem State.onLines_tickIe (f : LineNo → Line → Line) :
    (s.onLines f).tickIe = s.tickIe := by simp only [State.onLines]
@[simp] theorem State.onLines_conRxIe (f : LineNo → Line → Line) :
    (s.onLines f).conRxIe = s.conRxIe := by simp only [State.onLines]
@[simp] theorem State.onLines_conTxIe (f : LineNo → Line → Line) :
    (s.onLines f).conTxIe = s.conTxIe := by simp only [State.onLines]
@[simp] theorem State.onLines_alertIe (f : LineNo → Line → Line) :
    (s.onLines f).alertIe = s.alertIe := by simp only [State.onLines]
@[simp] theorem State.onLines_cmdIgnored (f : LineNo → Line → Line) :
    (s.onLines f).cmdIgnored = s.cmdIgnored := by simp only [State.onLines]
@[simp] theorem State.onLines_writeIgnored (f : LineNo → Line → Line) :
    (s.onLines f).writeIgnored = s.writeIgnored := by simp only [State.onLines]
@[simp] theorem State.onLines_tableBase (f : LineNo → Line → Line) :
    (s.onLines f).tableBase = s.tableBase := by simp only [State.onLines]
@[simp] theorem State.onLines_customDivisor (f : LineNo → Line → Line) :
    (s.onLines f).customDivisor = s.customDivisor := by simp only [State.onLines]
@[simp] theorem State.onLines_lineSelect (f : LineNo → Line → Line) :
    (s.onLines f).lineSelect = s.lineSelect := by simp only [State.onLines]
@[simp] theorem State.onLines_classIndex (f : LineNo → Line → Line) :
    (s.onLines f).classIndex = s.classIndex := by simp only [State.onLines]
@[simp] theorem State.onLines_classTable (f : LineNo → Line → Line) :
    (s.onLines f).classTable = s.classTable := by simp only [State.onLines]
@[simp] theorem State.onLines_seq (f : LineNo → Line → Line) :
    (s.onLines f).seq = s.seq := by simp only [State.onLines]
@[simp] theorem State.onLines_position (f : LineNo → Line → Line) :
    (s.onLines f).position = s.position := by simp only [State.onLines]
@[simp] theorem State.onLines_visit (f : LineNo → Line → Line) :
    (s.onLines f).visit = s.visit := by simp only [State.onLines]
@[simp] theorem State.onLines_lines (f : LineNo → Line → Line) :
    (s.onLines f).lines = Vector.ofFn fun n => f n (s.line n) := rfl
@[simp] theorem State.onLines_mem (f : LineNo → Line → Line) :
    (s.onLines f).mem = s.mem := by simp only [State.onLines]
@[simp] theorem State.onLines_faultAddr (f : LineNo → Line → Line) :
    (s.onLines f).faultAddr = s.faultAddr := by simp only [State.onLines]
@[simp] theorem State.onLines_faultDesc (f : LineNo → Line → Line) :
    (s.onLines f).faultDesc = s.faultDesc := by simp only [State.onLines]
@[simp] theorem State.onLines_events (f : LineNo → Line → Line) :
    (s.onLines f).events = s.events := by simp only [State.onLines]
@[simp] theorem State.onLines_overflow (f : LineNo → Line → Line) :
    (s.onLines f).overflow = s.overflow := by simp only [State.onLines]
@[simp] theorem State.onLines_lost (f : LineNo → Line → Line) :
    (s.onLines f).lost = s.lost := by simp only [State.onLines]
@[simp] theorem State.onLines_tick (f : LineNo → Line → Line) :
    (s.onLines f).tick = s.tick := by simp only [State.onLines]
@[simp] theorem State.onLines_missed (f : LineNo → Line → Line) :
    (s.onLines f).missed = s.missed := by simp only [State.onLines]
@[simp] theorem State.onLines_threshold (f : LineNo → Line → Line) :
    (s.onLines f).threshold = s.threshold := by simp only [State.onLines]
@[simp] theorem State.onLines_ageLimit (f : LineNo → Line → Line) :
    (s.onLines f).ageLimit = s.ageLimit := by simp only [State.onLines]
@[simp] theorem State.onLines_beatClocks (f : LineNo → Line → Line) :
    (s.onLines f).beatClocks = s.beatClocks := by simp only [State.onLines]
@[simp] theorem State.onLines_sensePins (f : LineNo → Line → Line) :
    (s.onLines f).sensePins = s.sensePins := by simp only [State.onLines]
@[simp] theorem State.onLines_cadence (f : LineNo → Line → Line) :
    (s.onLines f).cadence = s.cadence := by simp only [State.onLines]
@[simp] theorem State.onLines_cadenceCount (f : LineNo → Line → Line) :
    (s.onLines f).cadenceCount = s.cadenceCount := by simp only [State.onLines]
@[simp] theorem State.onLines_resweep (f : LineNo → Line → Line) :
    (s.onLines f).resweep = s.resweep := by simp only [State.onLines]
@[simp] theorem State.onLines_resweepCount (f : LineNo → Line → Line) :
    (s.onLines f).resweepCount = s.resweepCount := by simp only [State.onLines]
@[simp] theorem State.onLines_livenessEn (f : LineNo → Line → Line) :
    (s.onLines f).livenessEn = s.livenessEn := by simp only [State.onLines]
@[simp] theorem State.onLines_livenessPeriod (f : LineNo → Line → Line) :
    (s.onLines f).livenessPeriod = s.livenessPeriod := by simp only [State.onLines]
@[simp] theorem State.onLines_guardCount (f : LineNo → Line → Line) :
    (s.onLines f).guardCount = s.guardCount := by simp only [State.onLines]
@[simp] theorem State.onLines_guardRunning (f : LineNo → Line → Line) :
    (s.onLines f).guardRunning = s.guardRunning := by simp only [State.onLines]
@[simp] theorem State.onLines_firstKey (f : LineNo → Line → Line) :
    (s.onLines f).firstKey = s.firstKey := by simp only [State.onLines]
@[simp] theorem State.onLines_alertLiveness (f : LineNo → Line → Line) :
    (s.onLines f).alertLiveness = s.alertLiveness := by simp only [State.onLines]
@[simp] theorem State.onLines_power (f : LineNo → Line → Line) :
    (s.onLines f).power = s.power := by simp only [State.onLines]
@[simp] theorem State.onLines_req (f : LineNo → Line → Line) :
    (s.onLines f).req = s.req := by simp only [State.onLines]
@[simp] theorem State.onLines_autoDoze (f : LineNo → Line → Line) :
    (s.onLines f).autoDoze = s.autoDoze := by simp only [State.onLines]
@[simp] theorem State.onLines_idleBeats (f : LineNo → Line → Line) :
    (s.onLines f).idleBeats = s.idleBeats := by simp only [State.onLines]
@[simp] theorem State.onLines_wakeEn (f : LineNo → Line → Line) :
    (s.onLines f).wakeEn = s.wakeEn := by simp only [State.onLines]
@[simp] theorem State.onLines_wakeLoop (f : LineNo → Line → Line) :
    (s.onLines f).wakeLoop = s.wakeLoop := by simp only [State.onLines]
@[simp] theorem State.onLines_wakeStart (f : LineNo → Line → Line) :
    (s.onLines f).wakeStart = s.wakeStart := by simp only [State.onLines]
@[simp] theorem State.onLines_wakeSense (f : LineNo → Line → Line) :
    (s.onLines f).wakeSense = s.wakeSense := by simp only [State.onLines]
@[simp] theorem State.onLines_resetHeld (f : LineNo → Line → Line) :
    (s.onLines f).resetHeld = s.resetHeld := by simp only [State.onLines]
@[simp] theorem State.onLines_settleClocks (f : LineNo → Line → Line) :
    (s.onLines f).settleClocks = s.settleClocks := by simp only [State.onLines]
@[simp] theorem State.onLines_txLost (f : LineNo → Line → Line) :
    (s.onLines f).txLost = s.txLost := by simp only [State.onLines]
@[simp] theorem State.onLines_dozeBarred (f : LineNo → Line → Line) :
    (s.onLines f).dozeBarred = s.dozeBarred := by simp only [State.onLines]
@[simp] theorem State.onLines_busData (f : LineNo → Line → Line) :
    (s.onLines f).busData = s.busData := by simp only [State.onLines]
@[simp] theorem State.onLines_txnCount (f : LineNo → Line → Line) :
    (s.onLines f).txnCount = s.txnCount := by simp only [State.onLines]
@[simp] theorem State.onLines_pending (f : LineNo → Line → Line) :
    (s.onLines f).pending = s.pending := by simp only [State.onLines]

/-! ### `refuseWrite` -/

@[simp] theorem State.refuseWrite_eventIe : s.refuseWrite.eventIe = s.eventIe := rfl
@[simp] theorem State.refuseWrite_tickIe : s.refuseWrite.tickIe = s.tickIe := rfl
@[simp] theorem State.refuseWrite_conRxIe : s.refuseWrite.conRxIe = s.conRxIe := rfl
@[simp] theorem State.refuseWrite_conTxIe : s.refuseWrite.conTxIe = s.conTxIe := rfl
@[simp] theorem State.refuseWrite_alertIe : s.refuseWrite.alertIe = s.alertIe := rfl
@[simp] theorem State.refuseWrite_cmdIgnored : s.refuseWrite.cmdIgnored = s.cmdIgnored := rfl
@[simp] theorem State.refuseWrite_writeIgnored : s.refuseWrite.writeIgnored = true := rfl
@[simp] theorem State.refuseWrite_tableBase : s.refuseWrite.tableBase = s.tableBase := rfl
@[simp] theorem State.refuseWrite_customDivisor : s.refuseWrite.customDivisor = s.customDivisor := rfl
@[simp] theorem State.refuseWrite_lineSelect : s.refuseWrite.lineSelect = s.lineSelect := rfl
@[simp] theorem State.refuseWrite_classIndex : s.refuseWrite.classIndex = s.classIndex := rfl
@[simp] theorem State.refuseWrite_classTable : s.refuseWrite.classTable = s.classTable := rfl
@[simp] theorem State.refuseWrite_seq : s.refuseWrite.seq = s.seq := rfl
@[simp] theorem State.refuseWrite_position : s.refuseWrite.position = s.position := rfl
@[simp] theorem State.refuseWrite_visit : s.refuseWrite.visit = s.visit := rfl
@[simp] theorem State.refuseWrite_lines : s.refuseWrite.lines = s.lines := rfl
@[simp] theorem State.refuseWrite_mem : s.refuseWrite.mem = s.mem := rfl
@[simp] theorem State.refuseWrite_faultAddr : s.refuseWrite.faultAddr = s.faultAddr := rfl
@[simp] theorem State.refuseWrite_faultDesc : s.refuseWrite.faultDesc = s.faultDesc := rfl
@[simp] theorem State.refuseWrite_events : s.refuseWrite.events = s.events := rfl
@[simp] theorem State.refuseWrite_overflow : s.refuseWrite.overflow = s.overflow := rfl
@[simp] theorem State.refuseWrite_lost : s.refuseWrite.lost = s.lost := rfl
@[simp] theorem State.refuseWrite_tick : s.refuseWrite.tick = s.tick := rfl
@[simp] theorem State.refuseWrite_missed : s.refuseWrite.missed = s.missed := rfl
@[simp] theorem State.refuseWrite_threshold : s.refuseWrite.threshold = s.threshold := rfl
@[simp] theorem State.refuseWrite_ageLimit : s.refuseWrite.ageLimit = s.ageLimit := rfl
@[simp] theorem State.refuseWrite_beatClocks : s.refuseWrite.beatClocks = s.beatClocks := rfl
@[simp] theorem State.refuseWrite_sensePins : s.refuseWrite.sensePins = s.sensePins := rfl
@[simp] theorem State.refuseWrite_cadence : s.refuseWrite.cadence = s.cadence := rfl
@[simp] theorem State.refuseWrite_cadenceCount : s.refuseWrite.cadenceCount = s.cadenceCount := rfl
@[simp] theorem State.refuseWrite_resweep : s.refuseWrite.resweep = s.resweep := rfl
@[simp] theorem State.refuseWrite_resweepCount : s.refuseWrite.resweepCount = s.resweepCount := rfl
@[simp] theorem State.refuseWrite_livenessEn : s.refuseWrite.livenessEn = s.livenessEn := rfl
@[simp] theorem State.refuseWrite_livenessPeriod : s.refuseWrite.livenessPeriod = s.livenessPeriod := rfl
@[simp] theorem State.refuseWrite_guardCount : s.refuseWrite.guardCount = s.guardCount := rfl
@[simp] theorem State.refuseWrite_guardRunning : s.refuseWrite.guardRunning = s.guardRunning := rfl
@[simp] theorem State.refuseWrite_firstKey : s.refuseWrite.firstKey = s.firstKey := rfl
@[simp] theorem State.refuseWrite_alertLiveness : s.refuseWrite.alertLiveness = s.alertLiveness := rfl
@[simp] theorem State.refuseWrite_power : s.refuseWrite.power = s.power := rfl
@[simp] theorem State.refuseWrite_req : s.refuseWrite.req = s.req := rfl
@[simp] theorem State.refuseWrite_autoDoze : s.refuseWrite.autoDoze = s.autoDoze := rfl
@[simp] theorem State.refuseWrite_idleBeats : s.refuseWrite.idleBeats = s.idleBeats := rfl
@[simp] theorem State.refuseWrite_wakeEn : s.refuseWrite.wakeEn = s.wakeEn := rfl
@[simp] theorem State.refuseWrite_wakeLoop : s.refuseWrite.wakeLoop = s.wakeLoop := rfl
@[simp] theorem State.refuseWrite_wakeStart : s.refuseWrite.wakeStart = s.wakeStart := rfl
@[simp] theorem State.refuseWrite_wakeSense : s.refuseWrite.wakeSense = s.wakeSense := rfl
@[simp] theorem State.refuseWrite_resetHeld : s.refuseWrite.resetHeld = s.resetHeld := rfl
@[simp] theorem State.refuseWrite_settleClocks : s.refuseWrite.settleClocks = s.settleClocks := rfl
@[simp] theorem State.refuseWrite_txLost : s.refuseWrite.txLost = s.txLost := rfl
@[simp] theorem State.refuseWrite_dozeBarred : s.refuseWrite.dozeBarred = s.dozeBarred := rfl
@[simp] theorem State.refuseWrite_busData : s.refuseWrite.busData = s.busData := rfl
@[simp] theorem State.refuseWrite_txnCount : s.refuseWrite.txnCount = s.txnCount := rfl
@[simp] theorem State.refuseWrite_pending : s.refuseWrite.pending = s.pending := rfl

/-! ### `refuseCommand` -/

@[simp] theorem State.refuseCommand_eventIe : s.refuseCommand.eventIe = s.eventIe := rfl
@[simp] theorem State.refuseCommand_tickIe : s.refuseCommand.tickIe = s.tickIe := rfl
@[simp] theorem State.refuseCommand_conRxIe : s.refuseCommand.conRxIe = s.conRxIe := rfl
@[simp] theorem State.refuseCommand_conTxIe : s.refuseCommand.conTxIe = s.conTxIe := rfl
@[simp] theorem State.refuseCommand_alertIe : s.refuseCommand.alertIe = s.alertIe := rfl
@[simp] theorem State.refuseCommand_cmdIgnored : s.refuseCommand.cmdIgnored = true := rfl
@[simp] theorem State.refuseCommand_writeIgnored : s.refuseCommand.writeIgnored = s.writeIgnored := rfl
@[simp] theorem State.refuseCommand_tableBase : s.refuseCommand.tableBase = s.tableBase := rfl
@[simp] theorem State.refuseCommand_customDivisor : s.refuseCommand.customDivisor = s.customDivisor := rfl
@[simp] theorem State.refuseCommand_lineSelect : s.refuseCommand.lineSelect = s.lineSelect := rfl
@[simp] theorem State.refuseCommand_classIndex : s.refuseCommand.classIndex = s.classIndex := rfl
@[simp] theorem State.refuseCommand_classTable : s.refuseCommand.classTable = s.classTable := rfl
@[simp] theorem State.refuseCommand_seq : s.refuseCommand.seq = s.seq := rfl
@[simp] theorem State.refuseCommand_position : s.refuseCommand.position = s.position := rfl
@[simp] theorem State.refuseCommand_visit : s.refuseCommand.visit = s.visit := rfl
@[simp] theorem State.refuseCommand_lines : s.refuseCommand.lines = s.lines := rfl
@[simp] theorem State.refuseCommand_mem : s.refuseCommand.mem = s.mem := rfl
@[simp] theorem State.refuseCommand_faultAddr : s.refuseCommand.faultAddr = s.faultAddr := rfl
@[simp] theorem State.refuseCommand_faultDesc : s.refuseCommand.faultDesc = s.faultDesc := rfl
@[simp] theorem State.refuseCommand_events : s.refuseCommand.events = s.events := rfl
@[simp] theorem State.refuseCommand_overflow : s.refuseCommand.overflow = s.overflow := rfl
@[simp] theorem State.refuseCommand_lost : s.refuseCommand.lost = s.lost := rfl
@[simp] theorem State.refuseCommand_tick : s.refuseCommand.tick = s.tick := rfl
@[simp] theorem State.refuseCommand_missed : s.refuseCommand.missed = s.missed := rfl
@[simp] theorem State.refuseCommand_threshold : s.refuseCommand.threshold = s.threshold := rfl
@[simp] theorem State.refuseCommand_ageLimit : s.refuseCommand.ageLimit = s.ageLimit := rfl
@[simp] theorem State.refuseCommand_beatClocks : s.refuseCommand.beatClocks = s.beatClocks := rfl
@[simp] theorem State.refuseCommand_sensePins : s.refuseCommand.sensePins = s.sensePins := rfl
@[simp] theorem State.refuseCommand_cadence : s.refuseCommand.cadence = s.cadence := rfl
@[simp] theorem State.refuseCommand_cadenceCount : s.refuseCommand.cadenceCount = s.cadenceCount := rfl
@[simp] theorem State.refuseCommand_resweep : s.refuseCommand.resweep = s.resweep := rfl
@[simp] theorem State.refuseCommand_resweepCount : s.refuseCommand.resweepCount = s.resweepCount := rfl
@[simp] theorem State.refuseCommand_livenessEn : s.refuseCommand.livenessEn = s.livenessEn := rfl
@[simp] theorem State.refuseCommand_livenessPeriod : s.refuseCommand.livenessPeriod = s.livenessPeriod := rfl
@[simp] theorem State.refuseCommand_guardCount : s.refuseCommand.guardCount = s.guardCount := rfl
@[simp] theorem State.refuseCommand_guardRunning : s.refuseCommand.guardRunning = s.guardRunning := rfl
@[simp] theorem State.refuseCommand_firstKey : s.refuseCommand.firstKey = s.firstKey := rfl
@[simp] theorem State.refuseCommand_alertLiveness : s.refuseCommand.alertLiveness = s.alertLiveness := rfl
@[simp] theorem State.refuseCommand_power : s.refuseCommand.power = s.power := rfl
@[simp] theorem State.refuseCommand_req : s.refuseCommand.req = s.req := rfl
@[simp] theorem State.refuseCommand_autoDoze : s.refuseCommand.autoDoze = s.autoDoze := rfl
@[simp] theorem State.refuseCommand_idleBeats : s.refuseCommand.idleBeats = s.idleBeats := rfl
@[simp] theorem State.refuseCommand_wakeEn : s.refuseCommand.wakeEn = s.wakeEn := rfl
@[simp] theorem State.refuseCommand_wakeLoop : s.refuseCommand.wakeLoop = s.wakeLoop := rfl
@[simp] theorem State.refuseCommand_wakeStart : s.refuseCommand.wakeStart = s.wakeStart := rfl
@[simp] theorem State.refuseCommand_wakeSense : s.refuseCommand.wakeSense = s.wakeSense := rfl
@[simp] theorem State.refuseCommand_resetHeld : s.refuseCommand.resetHeld = s.resetHeld := rfl
@[simp] theorem State.refuseCommand_settleClocks : s.refuseCommand.settleClocks = s.settleClocks := rfl
@[simp] theorem State.refuseCommand_txLost : s.refuseCommand.txLost = s.txLost := rfl
@[simp] theorem State.refuseCommand_dozeBarred : s.refuseCommand.dozeBarred = s.dozeBarred := rfl
@[simp] theorem State.refuseCommand_busData : s.refuseCommand.busData = s.busData := rfl
@[simp] theorem State.refuseCommand_txnCount : s.refuseCommand.txnCount = s.txnCount := rfl
@[simp] theorem State.refuseCommand_pending : s.refuseCommand.pending = s.pending := rfl

/-! ### `freeEngine` -/

@[simp] theorem State.freeEngine_eventIe : s.freeEngine.eventIe = s.eventIe := rfl
@[simp] theorem State.freeEngine_tickIe : s.freeEngine.tickIe = s.tickIe := rfl
@[simp] theorem State.freeEngine_conRxIe : s.freeEngine.conRxIe = s.conRxIe := rfl
@[simp] theorem State.freeEngine_conTxIe : s.freeEngine.conTxIe = s.conTxIe := rfl
@[simp] theorem State.freeEngine_alertIe : s.freeEngine.alertIe = s.alertIe := rfl
@[simp] theorem State.freeEngine_cmdIgnored : s.freeEngine.cmdIgnored = s.cmdIgnored := rfl
@[simp] theorem State.freeEngine_writeIgnored : s.freeEngine.writeIgnored = s.writeIgnored := rfl
@[simp] theorem State.freeEngine_tableBase : s.freeEngine.tableBase = s.tableBase := rfl
@[simp] theorem State.freeEngine_customDivisor : s.freeEngine.customDivisor = s.customDivisor := rfl
@[simp] theorem State.freeEngine_lineSelect : s.freeEngine.lineSelect = s.lineSelect := rfl
@[simp] theorem State.freeEngine_classIndex : s.freeEngine.classIndex = s.classIndex := rfl
@[simp] theorem State.freeEngine_classTable : s.freeEngine.classTable = s.classTable := rfl
@[simp] theorem State.freeEngine_seq : s.freeEngine.seq = s.seq := rfl
@[simp] theorem State.freeEngine_position : s.freeEngine.position = s.position := rfl
@[simp] theorem State.freeEngine_visit : s.freeEngine.visit = s.visit := rfl
@[simp] theorem State.freeEngine_lines : s.freeEngine.lines = s.lines := rfl
@[simp] theorem State.freeEngine_mem : s.freeEngine.mem = none := rfl
@[simp] theorem State.freeEngine_faultAddr : s.freeEngine.faultAddr = s.faultAddr := rfl
@[simp] theorem State.freeEngine_faultDesc : s.freeEngine.faultDesc = s.faultDesc := rfl
@[simp] theorem State.freeEngine_events : s.freeEngine.events = s.events := rfl
@[simp] theorem State.freeEngine_overflow : s.freeEngine.overflow = s.overflow := rfl
@[simp] theorem State.freeEngine_lost : s.freeEngine.lost = s.lost := rfl
@[simp] theorem State.freeEngine_tick : s.freeEngine.tick = s.tick := rfl
@[simp] theorem State.freeEngine_missed : s.freeEngine.missed = s.missed := rfl
@[simp] theorem State.freeEngine_threshold : s.freeEngine.threshold = s.threshold := rfl
@[simp] theorem State.freeEngine_ageLimit : s.freeEngine.ageLimit = s.ageLimit := rfl
@[simp] theorem State.freeEngine_beatClocks : s.freeEngine.beatClocks = s.beatClocks := rfl
@[simp] theorem State.freeEngine_sensePins : s.freeEngine.sensePins = s.sensePins := rfl
@[simp] theorem State.freeEngine_cadence : s.freeEngine.cadence = s.cadence := rfl
@[simp] theorem State.freeEngine_cadenceCount : s.freeEngine.cadenceCount = s.cadenceCount := rfl
@[simp] theorem State.freeEngine_resweep : s.freeEngine.resweep = s.resweep := rfl
@[simp] theorem State.freeEngine_resweepCount : s.freeEngine.resweepCount = s.resweepCount := rfl
@[simp] theorem State.freeEngine_livenessEn : s.freeEngine.livenessEn = s.livenessEn := rfl
@[simp] theorem State.freeEngine_livenessPeriod : s.freeEngine.livenessPeriod = s.livenessPeriod := rfl
@[simp] theorem State.freeEngine_guardCount : s.freeEngine.guardCount = s.guardCount := rfl
@[simp] theorem State.freeEngine_guardRunning : s.freeEngine.guardRunning = s.guardRunning := rfl
@[simp] theorem State.freeEngine_firstKey : s.freeEngine.firstKey = s.firstKey := rfl
@[simp] theorem State.freeEngine_alertLiveness : s.freeEngine.alertLiveness = s.alertLiveness := rfl
@[simp] theorem State.freeEngine_power : s.freeEngine.power = s.power := rfl
@[simp] theorem State.freeEngine_req : s.freeEngine.req = s.req := rfl
@[simp] theorem State.freeEngine_autoDoze : s.freeEngine.autoDoze = s.autoDoze := rfl
@[simp] theorem State.freeEngine_idleBeats : s.freeEngine.idleBeats = s.idleBeats := rfl
@[simp] theorem State.freeEngine_wakeEn : s.freeEngine.wakeEn = s.wakeEn := rfl
@[simp] theorem State.freeEngine_wakeLoop : s.freeEngine.wakeLoop = s.wakeLoop := rfl
@[simp] theorem State.freeEngine_wakeStart : s.freeEngine.wakeStart = s.wakeStart := rfl
@[simp] theorem State.freeEngine_wakeSense : s.freeEngine.wakeSense = s.wakeSense := rfl
@[simp] theorem State.freeEngine_resetHeld : s.freeEngine.resetHeld = s.resetHeld := rfl
@[simp] theorem State.freeEngine_settleClocks : s.freeEngine.settleClocks = s.settleClocks := rfl
@[simp] theorem State.freeEngine_txLost : s.freeEngine.txLost = s.txLost := rfl
@[simp] theorem State.freeEngine_dozeBarred : s.freeEngine.dozeBarred = s.dozeBarred := rfl
@[simp] theorem State.freeEngine_busData : s.freeEngine.busData = s.busData := rfl
@[simp] theorem State.freeEngine_txnCount : s.freeEngine.txnCount = s.txnCount := rfl
@[simp] theorem State.freeEngine_pending : s.freeEngine.pending = s.pending := rfl

/-! ### `abandonStandby` -/

@[simp] theorem State.abandonStandby_eventIe : s.abandonStandby.eventIe = s.eventIe := rfl
@[simp] theorem State.abandonStandby_tickIe : s.abandonStandby.tickIe = s.tickIe := rfl
@[simp] theorem State.abandonStandby_conRxIe : s.abandonStandby.conRxIe = s.conRxIe := rfl
@[simp] theorem State.abandonStandby_conTxIe : s.abandonStandby.conTxIe = s.conTxIe := rfl
@[simp] theorem State.abandonStandby_alertIe : s.abandonStandby.alertIe = s.alertIe := rfl
@[simp] theorem State.abandonStandby_cmdIgnored : s.abandonStandby.cmdIgnored = s.cmdIgnored := rfl
@[simp] theorem State.abandonStandby_writeIgnored : s.abandonStandby.writeIgnored = s.writeIgnored := rfl
@[simp] theorem State.abandonStandby_tableBase : s.abandonStandby.tableBase = s.tableBase := rfl
@[simp] theorem State.abandonStandby_customDivisor : s.abandonStandby.customDivisor = s.customDivisor := rfl
@[simp] theorem State.abandonStandby_lineSelect : s.abandonStandby.lineSelect = s.lineSelect := rfl
@[simp] theorem State.abandonStandby_classIndex : s.abandonStandby.classIndex = s.classIndex := rfl
@[simp] theorem State.abandonStandby_classTable : s.abandonStandby.classTable = s.classTable := rfl
@[simp] theorem State.abandonStandby_seq : s.abandonStandby.seq = s.seq := rfl
@[simp] theorem State.abandonStandby_position : s.abandonStandby.position = s.position := rfl
@[simp] theorem State.abandonStandby_visit : s.abandonStandby.visit = s.visit := rfl
@[simp] theorem State.abandonStandby_lines : s.abandonStandby.lines = s.lines := rfl
@[simp] theorem State.abandonStandby_mem : s.abandonStandby.mem = s.mem := rfl
@[simp] theorem State.abandonStandby_faultAddr : s.abandonStandby.faultAddr = s.faultAddr := rfl
@[simp] theorem State.abandonStandby_faultDesc : s.abandonStandby.faultDesc = s.faultDesc := rfl
@[simp] theorem State.abandonStandby_events : s.abandonStandby.events = s.events := rfl
@[simp] theorem State.abandonStandby_overflow : s.abandonStandby.overflow = s.overflow := rfl
@[simp] theorem State.abandonStandby_lost : s.abandonStandby.lost = s.lost := rfl
@[simp] theorem State.abandonStandby_tick : s.abandonStandby.tick = s.tick := rfl
@[simp] theorem State.abandonStandby_missed : s.abandonStandby.missed = s.missed := rfl
@[simp] theorem State.abandonStandby_threshold : s.abandonStandby.threshold = s.threshold := rfl
@[simp] theorem State.abandonStandby_ageLimit : s.abandonStandby.ageLimit = s.ageLimit := rfl
@[simp] theorem State.abandonStandby_beatClocks : s.abandonStandby.beatClocks = s.beatClocks := rfl
@[simp] theorem State.abandonStandby_sensePins : s.abandonStandby.sensePins = s.sensePins := rfl
@[simp] theorem State.abandonStandby_cadence : s.abandonStandby.cadence = s.cadence := rfl
@[simp] theorem State.abandonStandby_cadenceCount : s.abandonStandby.cadenceCount = s.cadenceCount := rfl
@[simp] theorem State.abandonStandby_resweep : s.abandonStandby.resweep = s.resweep := rfl
@[simp] theorem State.abandonStandby_resweepCount : s.abandonStandby.resweepCount = s.resweepCount := rfl
@[simp] theorem State.abandonStandby_livenessEn : s.abandonStandby.livenessEn = s.livenessEn := rfl
@[simp] theorem State.abandonStandby_livenessPeriod : s.abandonStandby.livenessPeriod = s.livenessPeriod := rfl
@[simp] theorem State.abandonStandby_guardCount : s.abandonStandby.guardCount = s.guardCount := rfl
@[simp] theorem State.abandonStandby_guardRunning : s.abandonStandby.guardRunning = s.guardRunning := rfl
@[simp] theorem State.abandonStandby_firstKey : s.abandonStandby.firstKey = s.firstKey := rfl
@[simp] theorem State.abandonStandby_alertLiveness : s.abandonStandby.alertLiveness = s.alertLiveness := rfl
@[simp] theorem State.abandonStandby_power : s.abandonStandby.power = PowerState.active := rfl
@[simp] theorem State.abandonStandby_req : s.abandonStandby.req = PowerReq.active := rfl
@[simp] theorem State.abandonStandby_autoDoze : s.abandonStandby.autoDoze = s.autoDoze := rfl
@[simp] theorem State.abandonStandby_idleBeats : s.abandonStandby.idleBeats = s.idleBeats := rfl
@[simp] theorem State.abandonStandby_wakeEn : s.abandonStandby.wakeEn = s.wakeEn := rfl
@[simp] theorem State.abandonStandby_wakeLoop : s.abandonStandby.wakeLoop = s.wakeLoop := rfl
@[simp] theorem State.abandonStandby_wakeStart : s.abandonStandby.wakeStart = s.wakeStart := rfl
@[simp] theorem State.abandonStandby_wakeSense : s.abandonStandby.wakeSense = s.wakeSense := rfl
@[simp] theorem State.abandonStandby_resetHeld : s.abandonStandby.resetHeld = s.resetHeld := rfl
@[simp] theorem State.abandonStandby_settleClocks : s.abandonStandby.settleClocks = s.settleClocks := rfl
@[simp] theorem State.abandonStandby_txLost : s.abandonStandby.txLost = s.txLost := rfl
@[simp] theorem State.abandonStandby_dozeBarred : s.abandonStandby.dozeBarred = s.dozeBarred := rfl
@[simp] theorem State.abandonStandby_busData : s.abandonStandby.busData = s.busData := rfl
@[simp] theorem State.abandonStandby_txnCount : s.abandonStandby.txnCount = s.txnCount := rfl
@[simp] theorem State.abandonStandby_pending : s.abandonStandby.pending = s.pending := rfl

/-! ### `withPending` -/

@[simp] theorem State.withPending_eventIe (q : List Instr) : (s.withPending q).eventIe = s.eventIe := rfl
@[simp] theorem State.withPending_tickIe (q : List Instr) : (s.withPending q).tickIe = s.tickIe := rfl
@[simp] theorem State.withPending_conRxIe (q : List Instr) : (s.withPending q).conRxIe = s.conRxIe := rfl
@[simp] theorem State.withPending_conTxIe (q : List Instr) : (s.withPending q).conTxIe = s.conTxIe := rfl
@[simp] theorem State.withPending_alertIe (q : List Instr) : (s.withPending q).alertIe = s.alertIe := rfl
@[simp] theorem State.withPending_cmdIgnored (q : List Instr) : (s.withPending q).cmdIgnored = s.cmdIgnored := rfl
@[simp] theorem State.withPending_writeIgnored (q : List Instr) :
    (s.withPending q).writeIgnored = s.writeIgnored := rfl
@[simp] theorem State.withPending_tableBase (q : List Instr) : (s.withPending q).tableBase = s.tableBase := rfl
@[simp] theorem State.withPending_customDivisor (q : List Instr) :
    (s.withPending q).customDivisor = s.customDivisor := rfl
@[simp] theorem State.withPending_lineSelect (q : List Instr) : (s.withPending q).lineSelect = s.lineSelect := rfl
@[simp] theorem State.withPending_classIndex (q : List Instr) : (s.withPending q).classIndex = s.classIndex := rfl
@[simp] theorem State.withPending_classTable (q : List Instr) : (s.withPending q).classTable = s.classTable := rfl
@[simp] theorem State.withPending_seq (q : List Instr) : (s.withPending q).seq = s.seq := rfl
@[simp] theorem State.withPending_position (q : List Instr) : (s.withPending q).position = s.position := rfl
@[simp] theorem State.withPending_visit (q : List Instr) : (s.withPending q).visit = s.visit := rfl
@[simp] theorem State.withPending_lines (q : List Instr) : (s.withPending q).lines = s.lines := rfl
@[simp] theorem State.withPending_mem (q : List Instr) : (s.withPending q).mem = s.mem := rfl
@[simp] theorem State.withPending_faultAddr (q : List Instr) : (s.withPending q).faultAddr = s.faultAddr := rfl
@[simp] theorem State.withPending_faultDesc (q : List Instr) : (s.withPending q).faultDesc = s.faultDesc := rfl
@[simp] theorem State.withPending_events (q : List Instr) : (s.withPending q).events = s.events := rfl
@[simp] theorem State.withPending_overflow (q : List Instr) : (s.withPending q).overflow = s.overflow := rfl
@[simp] theorem State.withPending_lost (q : List Instr) : (s.withPending q).lost = s.lost := rfl
@[simp] theorem State.withPending_tick (q : List Instr) : (s.withPending q).tick = s.tick := rfl
@[simp] theorem State.withPending_missed (q : List Instr) : (s.withPending q).missed = s.missed := rfl
@[simp] theorem State.withPending_threshold (q : List Instr) : (s.withPending q).threshold = s.threshold := rfl
@[simp] theorem State.withPending_ageLimit (q : List Instr) : (s.withPending q).ageLimit = s.ageLimit := rfl
@[simp] theorem State.withPending_beatClocks (q : List Instr) : (s.withPending q).beatClocks = s.beatClocks := rfl
@[simp] theorem State.withPending_sensePins (q : List Instr) : (s.withPending q).sensePins = s.sensePins := rfl
@[simp] theorem State.withPending_cadence (q : List Instr) : (s.withPending q).cadence = s.cadence := rfl
@[simp] theorem State.withPending_cadenceCount (q : List Instr) :
    (s.withPending q).cadenceCount = s.cadenceCount := rfl
@[simp] theorem State.withPending_resweep (q : List Instr) : (s.withPending q).resweep = s.resweep := rfl
@[simp] theorem State.withPending_resweepCount (q : List Instr) :
    (s.withPending q).resweepCount = s.resweepCount := rfl
@[simp] theorem State.withPending_livenessEn (q : List Instr) : (s.withPending q).livenessEn = s.livenessEn := rfl
@[simp] theorem State.withPending_livenessPeriod (q : List Instr) :
    (s.withPending q).livenessPeriod = s.livenessPeriod := rfl
@[simp] theorem State.withPending_guardCount (q : List Instr) : (s.withPending q).guardCount = s.guardCount := rfl
@[simp] theorem State.withPending_guardRunning (q : List Instr) :
    (s.withPending q).guardRunning = s.guardRunning := rfl
@[simp] theorem State.withPending_firstKey (q : List Instr) : (s.withPending q).firstKey = s.firstKey := rfl
@[simp] theorem State.withPending_alertLiveness (q : List Instr) :
    (s.withPending q).alertLiveness = s.alertLiveness := rfl
@[simp] theorem State.withPending_power (q : List Instr) : (s.withPending q).power = s.power := rfl
@[simp] theorem State.withPending_req (q : List Instr) : (s.withPending q).req = s.req := rfl
@[simp] theorem State.withPending_autoDoze (q : List Instr) : (s.withPending q).autoDoze = s.autoDoze := rfl
@[simp] theorem State.withPending_idleBeats (q : List Instr) : (s.withPending q).idleBeats = s.idleBeats := rfl
@[simp] theorem State.withPending_wakeEn (q : List Instr) : (s.withPending q).wakeEn = s.wakeEn := rfl
@[simp] theorem State.withPending_wakeLoop (q : List Instr) : (s.withPending q).wakeLoop = s.wakeLoop := rfl
@[simp] theorem State.withPending_wakeStart (q : List Instr) : (s.withPending q).wakeStart = s.wakeStart := rfl
@[simp] theorem State.withPending_wakeSense (q : List Instr) : (s.withPending q).wakeSense = s.wakeSense := rfl
@[simp] theorem State.withPending_resetHeld (q : List Instr) : (s.withPending q).resetHeld = s.resetHeld := rfl
@[simp] theorem State.withPending_settleClocks (q : List Instr) :
    (s.withPending q).settleClocks = s.settleClocks := rfl
@[simp] theorem State.withPending_txLost (q : List Instr) : (s.withPending q).txLost = s.txLost := rfl
@[simp] theorem State.withPending_dozeBarred (q : List Instr) : (s.withPending q).dozeBarred = s.dozeBarred := rfl
@[simp] theorem State.withPending_busData (q : List Instr) : (s.withPending q).busData = s.busData := rfl
@[simp] theorem State.withPending_txnCount (q : List Instr) : (s.withPending q).txnCount = s.txnCount := rfl
@[simp] theorem State.withPending_pending (q : List Instr) : (s.withPending q).pending = q := rfl

/-! ### `issue` -/

@[simp] theorem State.issue_eventIe (v : Visit) (p : VisitPoint) (r : MemRequest) (a : Word) (k : AccessKind) :
    (s.issue v p r a k).eventIe = s.eventIe := rfl
@[simp] theorem State.issue_tickIe (v : Visit) (p : VisitPoint) (r : MemRequest) (a : Word) (k : AccessKind) :
    (s.issue v p r a k).tickIe = s.tickIe := rfl
@[simp] theorem State.issue_conRxIe (v : Visit) (p : VisitPoint) (r : MemRequest) (a : Word) (k : AccessKind) :
    (s.issue v p r a k).conRxIe = s.conRxIe := rfl
@[simp] theorem State.issue_conTxIe (v : Visit) (p : VisitPoint) (r : MemRequest) (a : Word) (k : AccessKind) :
    (s.issue v p r a k).conTxIe = s.conTxIe := rfl
@[simp] theorem State.issue_alertIe (v : Visit) (p : VisitPoint) (r : MemRequest) (a : Word) (k : AccessKind) :
    (s.issue v p r a k).alertIe = s.alertIe := rfl
@[simp] theorem State.issue_cmdIgnored (v : Visit) (p : VisitPoint) (r : MemRequest) (a : Word) (k : AccessKind) :
    (s.issue v p r a k).cmdIgnored = s.cmdIgnored := rfl
@[simp] theorem State.issue_writeIgnored (v : Visit) (p : VisitPoint) (r : MemRequest) (a : Word) (k : AccessKind) :
    (s.issue v p r a k).writeIgnored = s.writeIgnored := rfl
@[simp] theorem State.issue_tableBase (v : Visit) (p : VisitPoint) (r : MemRequest) (a : Word) (k : AccessKind) :
    (s.issue v p r a k).tableBase = s.tableBase := rfl
@[simp] theorem State.issue_customDivisor (v : Visit) (p : VisitPoint) (r : MemRequest) (a : Word) (k : AccessKind) :
    (s.issue v p r a k).customDivisor = s.customDivisor := rfl
@[simp] theorem State.issue_lineSelect (v : Visit) (p : VisitPoint) (r : MemRequest) (a : Word) (k : AccessKind) :
    (s.issue v p r a k).lineSelect = s.lineSelect := rfl
@[simp] theorem State.issue_classIndex (v : Visit) (p : VisitPoint) (r : MemRequest) (a : Word) (k : AccessKind) :
    (s.issue v p r a k).classIndex = s.classIndex := rfl
@[simp] theorem State.issue_classTable (v : Visit) (p : VisitPoint) (r : MemRequest) (a : Word) (k : AccessKind) :
    (s.issue v p r a k).classTable = s.classTable := rfl
@[simp] theorem State.issue_seq (v : Visit) (p : VisitPoint) (r : MemRequest) (a : Word) (k : AccessKind) :
    (s.issue v p r a k).seq = s.seq := rfl
@[simp] theorem State.issue_position (v : Visit) (p : VisitPoint) (r : MemRequest) (a : Word) (k : AccessKind) :
    (s.issue v p r a k).position = s.position := rfl
@[simp] theorem State.issue_visit (v : Visit) (p : VisitPoint) (r : MemRequest) (a : Word) (k : AccessKind) :
    (s.issue v p r a k).visit = some { v with point := p } := rfl
@[simp] theorem State.issue_lines (v : Visit) (p : VisitPoint) (r : MemRequest) (a : Word) (k : AccessKind) :
    (s.issue v p r a k).lines = s.lines := rfl
@[simp] theorem State.issue_mem (v : Visit) (p : VisitPoint) (r : MemRequest) (a : Word) (k : AccessKind) :
    (s.issue v p r a k).mem = some { tag := s.txnCount, request := r, addr := a, access := k, line := v.line, beats := 0 } := rfl
@[simp] theorem State.issue_faultAddr (v : Visit) (p : VisitPoint) (r : MemRequest) (a : Word) (k : AccessKind) :
    (s.issue v p r a k).faultAddr = s.faultAddr := rfl
@[simp] theorem State.issue_faultDesc (v : Visit) (p : VisitPoint) (r : MemRequest) (a : Word) (k : AccessKind) :
    (s.issue v p r a k).faultDesc = s.faultDesc := rfl
@[simp] theorem State.issue_events (v : Visit) (p : VisitPoint) (r : MemRequest) (a : Word) (k : AccessKind) :
    (s.issue v p r a k).events = s.events := rfl
@[simp] theorem State.issue_overflow (v : Visit) (p : VisitPoint) (r : MemRequest) (a : Word) (k : AccessKind) :
    (s.issue v p r a k).overflow = s.overflow := rfl
@[simp] theorem State.issue_lost (v : Visit) (p : VisitPoint) (r : MemRequest) (a : Word) (k : AccessKind) :
    (s.issue v p r a k).lost = s.lost := rfl
@[simp] theorem State.issue_tick (v : Visit) (p : VisitPoint) (r : MemRequest) (a : Word) (k : AccessKind) :
    (s.issue v p r a k).tick = s.tick := rfl
@[simp] theorem State.issue_missed (v : Visit) (p : VisitPoint) (r : MemRequest) (a : Word) (k : AccessKind) :
    (s.issue v p r a k).missed = s.missed := rfl
@[simp] theorem State.issue_threshold (v : Visit) (p : VisitPoint) (r : MemRequest) (a : Word) (k : AccessKind) :
    (s.issue v p r a k).threshold = s.threshold := rfl
@[simp] theorem State.issue_ageLimit (v : Visit) (p : VisitPoint) (r : MemRequest) (a : Word) (k : AccessKind) :
    (s.issue v p r a k).ageLimit = s.ageLimit := rfl
@[simp] theorem State.issue_beatClocks (v : Visit) (p : VisitPoint) (r : MemRequest) (a : Word) (k : AccessKind) :
    (s.issue v p r a k).beatClocks = s.beatClocks := rfl
@[simp] theorem State.issue_sensePins (v : Visit) (p : VisitPoint) (r : MemRequest) (a : Word) (k : AccessKind) :
    (s.issue v p r a k).sensePins = s.sensePins := rfl
@[simp] theorem State.issue_cadence (v : Visit) (p : VisitPoint) (r : MemRequest) (a : Word) (k : AccessKind) :
    (s.issue v p r a k).cadence = s.cadence := rfl
@[simp] theorem State.issue_cadenceCount (v : Visit) (p : VisitPoint) (r : MemRequest) (a : Word) (k : AccessKind) :
    (s.issue v p r a k).cadenceCount = s.cadenceCount := rfl
@[simp] theorem State.issue_resweep (v : Visit) (p : VisitPoint) (r : MemRequest) (a : Word) (k : AccessKind) :
    (s.issue v p r a k).resweep = s.resweep := rfl
@[simp] theorem State.issue_resweepCount (v : Visit) (p : VisitPoint) (r : MemRequest) (a : Word) (k : AccessKind) :
    (s.issue v p r a k).resweepCount = s.resweepCount := rfl
@[simp] theorem State.issue_livenessEn (v : Visit) (p : VisitPoint) (r : MemRequest) (a : Word) (k : AccessKind) :
    (s.issue v p r a k).livenessEn = s.livenessEn := rfl
@[simp] theorem State.issue_livenessPeriod (v : Visit) (p : VisitPoint) (r : MemRequest) (a : Word) (k : AccessKind) :
    (s.issue v p r a k).livenessPeriod = s.livenessPeriod := rfl
@[simp] theorem State.issue_guardCount (v : Visit) (p : VisitPoint) (r : MemRequest) (a : Word) (k : AccessKind) :
    (s.issue v p r a k).guardCount = s.guardCount := rfl
@[simp] theorem State.issue_guardRunning (v : Visit) (p : VisitPoint) (r : MemRequest) (a : Word) (k : AccessKind) :
    (s.issue v p r a k).guardRunning = s.guardRunning := rfl
@[simp] theorem State.issue_firstKey (v : Visit) (p : VisitPoint) (r : MemRequest) (a : Word) (k : AccessKind) :
    (s.issue v p r a k).firstKey = s.firstKey := rfl
@[simp] theorem State.issue_alertLiveness (v : Visit) (p : VisitPoint) (r : MemRequest) (a : Word) (k : AccessKind) :
    (s.issue v p r a k).alertLiveness = s.alertLiveness := rfl
@[simp] theorem State.issue_power (v : Visit) (p : VisitPoint) (r : MemRequest) (a : Word) (k : AccessKind) :
    (s.issue v p r a k).power = s.power := rfl
@[simp] theorem State.issue_req (v : Visit) (p : VisitPoint) (r : MemRequest) (a : Word) (k : AccessKind) :
    (s.issue v p r a k).req = s.req := rfl
@[simp] theorem State.issue_autoDoze (v : Visit) (p : VisitPoint) (r : MemRequest) (a : Word) (k : AccessKind) :
    (s.issue v p r a k).autoDoze = s.autoDoze := rfl
@[simp] theorem State.issue_idleBeats (v : Visit) (p : VisitPoint) (r : MemRequest) (a : Word) (k : AccessKind) :
    (s.issue v p r a k).idleBeats = s.idleBeats := rfl
@[simp] theorem State.issue_wakeEn (v : Visit) (p : VisitPoint) (r : MemRequest) (a : Word) (k : AccessKind) :
    (s.issue v p r a k).wakeEn = s.wakeEn := rfl
@[simp] theorem State.issue_wakeLoop (v : Visit) (p : VisitPoint) (r : MemRequest) (a : Word) (k : AccessKind) :
    (s.issue v p r a k).wakeLoop = s.wakeLoop := rfl
@[simp] theorem State.issue_wakeStart (v : Visit) (p : VisitPoint) (r : MemRequest) (a : Word) (k : AccessKind) :
    (s.issue v p r a k).wakeStart = s.wakeStart := rfl
@[simp] theorem State.issue_wakeSense (v : Visit) (p : VisitPoint) (r : MemRequest) (a : Word) (k : AccessKind) :
    (s.issue v p r a k).wakeSense = s.wakeSense := rfl
@[simp] theorem State.issue_resetHeld (v : Visit) (p : VisitPoint) (r : MemRequest) (a : Word) (k : AccessKind) :
    (s.issue v p r a k).resetHeld = s.resetHeld := rfl
@[simp] theorem State.issue_settleClocks (v : Visit) (p : VisitPoint) (r : MemRequest) (a : Word) (k : AccessKind) :
    (s.issue v p r a k).settleClocks = s.settleClocks := rfl
@[simp] theorem State.issue_txLost (v : Visit) (p : VisitPoint) (r : MemRequest) (a : Word) (k : AccessKind) :
    (s.issue v p r a k).txLost = s.txLost := rfl
@[simp] theorem State.issue_dozeBarred (v : Visit) (p : VisitPoint) (r : MemRequest) (a : Word) (k : AccessKind) :
    (s.issue v p r a k).dozeBarred = s.dozeBarred := rfl
@[simp] theorem State.issue_busData (v : Visit) (p : VisitPoint) (r : MemRequest) (a : Word) (k : AccessKind) :
    (s.issue v p r a k).busData = s.busData := rfl
@[simp] theorem State.issue_txnCount (v : Visit) (p : VisitPoint) (r : MemRequest) (a : Word) (k : AccessKind) :
    (s.issue v p r a k).txnCount = s.txnCount + 1 := rfl
@[simp] theorem State.issue_pending (v : Visit) (p : VisitPoint) (r : MemRequest) (a : Word) (k : AccessKind) :
    (s.issue v p r a k).pending = s.pending := rfl

/-! ### `recordFault` -/

@[simp] theorem State.recordFault_eventIe (t : Txn) (c : FaultCause) : (s.recordFault t c).eventIe = s.eventIe := rfl
@[simp] theorem State.recordFault_tickIe (t : Txn) (c : FaultCause) : (s.recordFault t c).tickIe = s.tickIe := rfl
@[simp] theorem State.recordFault_conRxIe (t : Txn) (c : FaultCause) : (s.recordFault t c).conRxIe = s.conRxIe := rfl
@[simp] theorem State.recordFault_conTxIe (t : Txn) (c : FaultCause) : (s.recordFault t c).conTxIe = s.conTxIe := rfl
@[simp] theorem State.recordFault_alertIe (t : Txn) (c : FaultCause) : (s.recordFault t c).alertIe = s.alertIe := rfl
@[simp] theorem State.recordFault_cmdIgnored (t : Txn) (c : FaultCause) :
    (s.recordFault t c).cmdIgnored = s.cmdIgnored := rfl
@[simp] theorem State.recordFault_writeIgnored (t : Txn) (c : FaultCause) :
    (s.recordFault t c).writeIgnored = s.writeIgnored := rfl
@[simp] theorem State.recordFault_tableBase (t : Txn) (c : FaultCause) :
    (s.recordFault t c).tableBase = s.tableBase := rfl
@[simp] theorem State.recordFault_customDivisor (t : Txn) (c : FaultCause) :
    (s.recordFault t c).customDivisor = s.customDivisor := rfl
@[simp] theorem State.recordFault_lineSelect (t : Txn) (c : FaultCause) :
    (s.recordFault t c).lineSelect = s.lineSelect := rfl
@[simp] theorem State.recordFault_classIndex (t : Txn) (c : FaultCause) :
    (s.recordFault t c).classIndex = s.classIndex := rfl
@[simp] theorem State.recordFault_classTable (t : Txn) (c : FaultCause) :
    (s.recordFault t c).classTable = s.classTable := rfl
@[simp] theorem State.recordFault_seq (t : Txn) (c : FaultCause) : (s.recordFault t c).seq = s.seq := rfl
@[simp] theorem State.recordFault_position (t : Txn) (c : FaultCause) :
    (s.recordFault t c).position = s.position := rfl
@[simp] theorem State.recordFault_visit (t : Txn) (c : FaultCause) : (s.recordFault t c).visit = s.visit := rfl
@[simp] theorem State.recordFault_lines (t : Txn) (c : FaultCause) : (s.recordFault t c).lines = s.lines := rfl
@[simp] theorem State.recordFault_mem (t : Txn) (c : FaultCause) : (s.recordFault t c).mem = s.mem := rfl
@[simp] theorem State.recordFault_faultAddr (t : Txn) (c : FaultCause) : (s.recordFault t c).faultAddr = t.addr := rfl
@[simp] theorem State.recordFault_faultDesc (t : Txn) (c : FaultCause) :
    (s.recordFault t c).faultDesc = { count := min 255 (s.faultDesc.count + 1), cause := some c, access := t.access, line := t.line } := rfl
@[simp] theorem State.recordFault_events (t : Txn) (c : FaultCause) : (s.recordFault t c).events = s.events := rfl
@[simp] theorem State.recordFault_overflow (t : Txn) (c : FaultCause) :
    (s.recordFault t c).overflow = s.overflow := rfl
@[simp] theorem State.recordFault_lost (t : Txn) (c : FaultCause) : (s.recordFault t c).lost = s.lost := rfl
@[simp] theorem State.recordFault_tick (t : Txn) (c : FaultCause) : (s.recordFault t c).tick = s.tick := rfl
@[simp] theorem State.recordFault_missed (t : Txn) (c : FaultCause) : (s.recordFault t c).missed = s.missed := rfl
@[simp] theorem State.recordFault_threshold (t : Txn) (c : FaultCause) :
    (s.recordFault t c).threshold = s.threshold := rfl
@[simp] theorem State.recordFault_ageLimit (t : Txn) (c : FaultCause) :
    (s.recordFault t c).ageLimit = s.ageLimit := rfl
@[simp] theorem State.recordFault_beatClocks (t : Txn) (c : FaultCause) :
    (s.recordFault t c).beatClocks = s.beatClocks := rfl
@[simp] theorem State.recordFault_sensePins (t : Txn) (c : FaultCause) :
    (s.recordFault t c).sensePins = s.sensePins := rfl
@[simp] theorem State.recordFault_cadence (t : Txn) (c : FaultCause) : (s.recordFault t c).cadence = s.cadence := rfl
@[simp] theorem State.recordFault_cadenceCount (t : Txn) (c : FaultCause) :
    (s.recordFault t c).cadenceCount = s.cadenceCount := rfl
@[simp] theorem State.recordFault_resweep (t : Txn) (c : FaultCause) : (s.recordFault t c).resweep = s.resweep := rfl
@[simp] theorem State.recordFault_resweepCount (t : Txn) (c : FaultCause) :
    (s.recordFault t c).resweepCount = s.resweepCount := rfl
@[simp] theorem State.recordFault_livenessEn (t : Txn) (c : FaultCause) :
    (s.recordFault t c).livenessEn = s.livenessEn := rfl
@[simp] theorem State.recordFault_livenessPeriod (t : Txn) (c : FaultCause) :
    (s.recordFault t c).livenessPeriod = s.livenessPeriod := rfl
@[simp] theorem State.recordFault_guardCount (t : Txn) (c : FaultCause) :
    (s.recordFault t c).guardCount = s.guardCount := rfl
@[simp] theorem State.recordFault_guardRunning (t : Txn) (c : FaultCause) :
    (s.recordFault t c).guardRunning = s.guardRunning := rfl
@[simp] theorem State.recordFault_firstKey (t : Txn) (c : FaultCause) :
    (s.recordFault t c).firstKey = s.firstKey := rfl
@[simp] theorem State.recordFault_alertLiveness (t : Txn) (c : FaultCause) :
    (s.recordFault t c).alertLiveness = s.alertLiveness := rfl
@[simp] theorem State.recordFault_power (t : Txn) (c : FaultCause) : (s.recordFault t c).power = s.power := rfl
@[simp] theorem State.recordFault_req (t : Txn) (c : FaultCause) : (s.recordFault t c).req = s.req := rfl
@[simp] theorem State.recordFault_autoDoze (t : Txn) (c : FaultCause) :
    (s.recordFault t c).autoDoze = s.autoDoze := rfl
@[simp] theorem State.recordFault_idleBeats (t : Txn) (c : FaultCause) :
    (s.recordFault t c).idleBeats = s.idleBeats := rfl
@[simp] theorem State.recordFault_wakeEn (t : Txn) (c : FaultCause) : (s.recordFault t c).wakeEn = s.wakeEn := rfl
@[simp] theorem State.recordFault_wakeLoop (t : Txn) (c : FaultCause) :
    (s.recordFault t c).wakeLoop = s.wakeLoop := rfl
@[simp] theorem State.recordFault_wakeStart (t : Txn) (c : FaultCause) :
    (s.recordFault t c).wakeStart = s.wakeStart := rfl
@[simp] theorem State.recordFault_wakeSense (t : Txn) (c : FaultCause) :
    (s.recordFault t c).wakeSense = s.wakeSense := rfl
@[simp] theorem State.recordFault_resetHeld (t : Txn) (c : FaultCause) :
    (s.recordFault t c).resetHeld = s.resetHeld := rfl
@[simp] theorem State.recordFault_settleClocks (t : Txn) (c : FaultCause) :
    (s.recordFault t c).settleClocks = s.settleClocks := rfl
@[simp] theorem State.recordFault_txLost (t : Txn) (c : FaultCause) : (s.recordFault t c).txLost = s.txLost := rfl
@[simp] theorem State.recordFault_dozeBarred (t : Txn) (c : FaultCause) :
    (s.recordFault t c).dozeBarred = s.dozeBarred := rfl
@[simp] theorem State.recordFault_busData (t : Txn) (c : FaultCause) : (s.recordFault t c).busData = s.busData := rfl
@[simp] theorem State.recordFault_txnCount (t : Txn) (c : FaultCause) :
    (s.recordFault t c).txnCount = s.txnCount := rfl
@[simp] theorem State.recordFault_pending (t : Txn) (c : FaultCause) : (s.recordFault t c).pending = s.pending := rfl

end Sys2Proof.Machine
end

