-- ==== Sys2Proof/Laws/Lines.lean ====
section
/-! SUPPORT. Reading a line after a change of lines. -/

namespace Sys2Proof.Machine

variable (s : State) (n m : LineNo)

@[simp] theorem State.line_setLine_self (l : Line) : (s.setLine n l).line n = l := by
  simp [State.line, State.setLine]

theorem State.line_setLine_ne (l : Line) (h : n ≠ m) : (s.setLine n l).line m = s.line m := by
  simp only [State.line, State.setLine, Fin.getElem_fin]
  exact Vector.getElem_set_ne _ _ (fun e => h (Fin.ext e))

/-- A line after `setLine`. -/
theorem State.line_setLine (l : Line) : (s.setLine n l).line m = if m = n then l else s.line m := by
  split
  · next h => subst h; simp
  · next h => exact State.line_setLine_ne s n m l (Ne.symm h)

/-- A line after `onLines`. -/
@[simp] theorem State.line_onLines (f : LineNo → Line → Line) : (s.onLines f).line n = f n (s.line n) := by
  simp [State.line, State.onLines]

/-- Two states whose lines agree one by one have equal lines. -/
theorem State.lines_ext {s t : State} (h : ∀ n, s.line n = t.line n) : s.lines = t.lines := by
  ext i hi
  exact h ⟨i, hi⟩

/-- Setting a line to itself changes nothing. -/
@[simp] theorem State.setLine_self : s.setLine n (s.line n) = s := by
  simp [State.setLine, State.line]

/-- Changing no line changes nothing. -/
theorem State.onLines_self {f : LineNo → Line → Line} (h : ∀ n, f n (s.line n) = s.line n) : s.onLines f = s := by
  have h1 : (s.onLines f).lines = s.lines := State.lines_ext fun n => (s.line_onLines n f).trans (h n)
  have h2 : s.onLines f = { s with lines := (s.onLines f).lines } := rfl
  rw [h2, h1]

/-- A line of the state after reset. -/
@[simp] theorem State.line_reset : State.reset.line n = Line.reset := by
  simp [State.line, State.reset]

end Sys2Proof.Machine
end

