-- ==== Sys2Proof/Laws/Commands.lean ====
section
/-! SUPPORT. The shape every meaning shares: what `command`, `expiry`, `finishInstant` and `watchIdle` can do, and the
states the statements' `Leads` speaks of. -/

namespace Sys2Proof.Machine

variable {s t u : State} {f g : State → State}

/-! ### `watchIdle` -/

/-- The idle watch keeps its count or restarts it. -/
theorem State.watchIdle_eq (s : State) :
    s.watchIdle = { s with idleBeats := if s.watchedIdle then s.idleBeats else 0 } := by
  unfold State.watchIdle
  split <;> simp [*]

/-- `watchIdle` changes nothing but the idle count. -/
theorem State.watchIdle_agrees (s : State) : s.watchIdle.agrees s := by
  rw [State.watchIdle_eq]
  refine ⟨rfl, ?_⟩
  by_cases h : s.watchedIdle = true <;> simp [h]

/-- The state after `watchIdle` agrees with any state that has the same fields but for the idle count. -/
theorem State.watchIdle_agrees_of (k : Nat) (h : t = { u with idleBeats := k }) (hk : k = u.idleBeats ∨ k = 0) :
    t.watchIdle.agrees u := by
  subst h
  rw [State.watchIdle_eq]
  refine ⟨rfl, ?_⟩
  by_cases h : ({ u with idleBeats := k } : State).watchedIdle = true
  · simpa [h] using hk
  · simp [h]

/-! ### Nothing due -/

/-- Where nothing is due, the expiries but the resweep change nothing. -/
theorem State.finishGuard_settled (h : s.settled = true) : s.finishGuard = s := by
  simp only [State.settled, Bool.and_eq_true, Bool.not_eq_true'] at h
  obtain ⟨⟨⟨⟨⟨⟨⟨⟨⟨h1, h2⟩, h3⟩, -⟩, h5⟩, -⟩, -⟩, -⟩, -⟩, -⟩ := h
  simp [State.finishGuard, State.finishVisit, State.expireHolds, State.expireTimeout, State.expireTick,
    State.expireGuard, *]

/-- Where nothing is due, the instant of the last beat boundary is over. -/
theorem State.endInstant_settled (h : s.settled = true) : s.endInstant = s := by
  simp only [State.settled, Bool.and_eq_true, Bool.not_eq_true', Bool.or_eq_true, beq_iff_eq] at h
  obtain ⟨⟨⟨-, h1⟩, h2⟩, h3⟩ := h
  have hw : s.watchIdle = s := by
    rw [State.watchIdle_eq]
    rcases h1 with h1 | h1
    · simp [h1]
    · rw [← h1]
      simp
  have hc : s.closeCounts = s := by simp [State.closeCounts, h3]
  rw [State.endInstant, hw, hc, ← h2]

/-- Where nothing is due, `finishInstant` changes nothing. -/
theorem State.finishInstant_settled (h : s.settled = true) : s.finishInstant = s := by
  have h0 := h
  simp only [State.settled, Bool.and_eq_true, Bool.not_eq_true'] at h0
  obtain ⟨⟨⟨⟨⟨⟨⟨-, h4⟩, -⟩, h6⟩, h7⟩, -⟩, -⟩, -⟩ := h0
  simp [State.finishInstant, State.finishTimers, State.finishGuard_settled h, State.expireResweep, h4,
    State.enterAutoDoze, h6, State.enterStandby, h7, State.endInstant_settled h]

/-- A command where nothing is due. -/
theorem command_settled (h : s.settled = true) : command f s = .next (f s).watchIdle := by
  simp [command, State.finishInstant_settled h]

/-- A command where nothing is due leads to its effect. -/
theorem leads_command (h : s.settled = true) (e : f s = u) : Leads (command f s) u :=
  ⟨_, command_settled h, e ▸ (f s).watchIdle_agrees⟩

/-- A command that also restarts the idle watch. -/
theorem leads_command_of (h : s.settled = true) (k : Nat) (e : f s = { u with idleBeats := k })
    (hk : k = u.idleBeats ∨ k = 0) : Leads (command f s) u :=
  ⟨_, command_settled h, State.watchIdle_agrees_of k e hk⟩

/-- An expiry leads to its effect. -/
theorem leads_expiry (e : f s = u) : Leads (expiry f s) u := ⟨_, rfl, e ▸ (f s).watchIdle_agrees⟩

/-- An expiry that also restarts the idle watch. -/
theorem leads_expiry_of (k : Nat) (e : f s = { u with idleBeats := k }) (hk : k = u.idleBeats ∨ k = 0) :
    Leads (expiry f s) u :=
  ⟨_, rfl, State.watchIdle_agrees_of k e hk⟩

/-- What stands before an answer that belongs to a transaction outstanding over a beat boundary: the hold limits. -/
theorem State.beforeAnswer_of_beats {v : Visit} {x : Txn} (hv : s.visit = some v) (hm : s.mem = some x)
    (hb : x.beats ≠ 0) : s.beforeAnswer x.tag = s.expireHolds := by
  simp [State.beforeAnswer, State.outlasts, State.awaited, hv, hm, hb]

/-- Where nothing stands before an answer, it acts on the state as it is. -/
theorem State.beforeAnswer_of_awaits {v : Visit} {x : Txn} (hv : s.visit = some v) (hm : s.mem = some x)
    (h : s.awaits x = true) : s.beforeAnswer x.tag = s := by
  have hh : s.holdsDue = false := by
    simp only [State.awaits, State.settled, Bool.or_eq_true, Bool.and_eq_true, Bool.not_eq_true'] at h
    rcases h with h | h
    · exact h.1.1.1.1.1.1.1.1.1
    · exact h.2
  by_cases hb : x.beats = 0
  · have hs : s.settled = true := by simpa [State.awaits, hb] using h
    simp [State.beforeAnswer, State.outlasts, State.awaited, hv, hm, hb, State.finishInstant_settled hs]
  · rw [State.beforeAnswer_of_beats hv hm hb, State.expireHolds, hh]
    rfl

/-- An answer before which nothing stands leads to its effect. -/
theorem leads_answered {v : Visit} {x : Txn} (hv : s.visit = some v) (hm : s.mem = some x) (h : s.awaits x = true)
    (e : f s = u) : Leads (answered x.tag f s) u :=
  ⟨(f s).watchIdle, by rw [answered, State.beforeAnswer_of_awaits hv hm h], e ▸ (f s).watchIdle_agrees⟩

/-- What `Leads` says of a known next state. -/
theorem Leads.next (h : Leads (.next t) u) : t.agrees u := by
  obtain ⟨t', e, h⟩ := h
  cases e
  exact h

/-! ### The power-state gate -/

/-- Outside STANDBY and WAKING the gate is open. -/
theorem State.gated_open (h : s.windowShut = false) : s.gated f = f s := by simp [State.gated, h]

/-- In STANDBY and WAKING a gated write only sets WRITE_IGNORED. -/
theorem State.gated_shut (h : s.windowShut = true) : s.gated f = s.refuseWrite := by simp [State.gated, h]

/-! ### The end of a doze (R159) -/

/-- Outside DOZE nothing ends. -/
theorem State.endDoze_of_ne (h : s.power ≠ .doze) : s.endDoze = s := by simp [State.endDoze, h]

/-- In DOZE the part returns to ACTIVE. -/
theorem State.endDoze_of_doze (h : s.power = .doze) :
    s.endDoze = { s with power := .active, req := .active, idleBeats := 0 } := by simp [State.endDoze, h]

/-- Ending a doze changes no line. -/
@[simp] theorem State.endDoze_lines (s : State) : s.endDoze.lines = s.lines := by
  unfold State.endDoze; split <;> rfl

/-- Ending a doze changes no line. -/
@[simp] theorem State.endDoze_line (s : State) (n : LineNo) : s.endDoze.line n = s.line n := by
  simp [State.line]

/-- Ending a doze does not move the sequencer. -/
@[simp] theorem State.endDoze_seq (s : State) : s.endDoze.seq = s.seq := by unfold State.endDoze; split <;> rfl

/-- Ending a doze ends no visit. -/
@[simp] theorem State.endDoze_visit (s : State) : s.endDoze.visit = s.visit := by
  unfold State.endDoze; split <;> rfl

/-- After a doze has ended the part does not doze. -/
theorem State.endDoze_power_ne (s : State) : s.endDoze.power ≠ .doze := by
  unfold State.endDoze; split <;> simp_all

end Sys2Proof.Machine
end

