-- ==== Sys2Proof/Laws/Clock.lean ====
section
/-! SUPPORT. What the reference clock does between commands, said once: the counts of one period, the counts that have
come to their end, and when there is none; and what VISIT and its STATUS step do at the instant of a beat boundary. -/

namespace Sys2Proof.Machine

variable {s : State} {l : Line} {n : LineNo}

/-! ### One period of a line unit -/

/-- An empty shifter does not follow the clock. -/
theorem Line.clockShifter_of_empty (f : Format) (h : l.shifter = .empty) : l.clockShifter f = l := by
  simp [Line.clockShifter, h]

/-- A break counts the period, up to its length (R56). -/
theorem Line.clockShifter_of_brk (f : Format) {times : Byte} {g : Format} {clocks : Nat} {loop : Bool}
    (h : l.shifter = .brk times g clocks loop) :
    l.clockShifter f = { l with shifter := .brk times g (min (breakClocks times g) (clocks + 1)) loop } := by
  simp [Line.clockShifter, h]

/-- The bit period of mark after a break counts the period (R56). -/
theorem Line.clockShifter_of_brkMark (f : Format) {g : Format} {clocks : Nat} {loop : Bool}
    (h : l.shifter = .brkMark g clocks loop) :
    l.clockShifter f = { l with shifter := .brkMark g (min (bitClocks g) (clocks + 1)) loop } := by
  simp [Line.clockShifter, h]

/-- Within a character, and at the end of the last one, the shifter counts the period and nothing else changes. -/
theorem Line.clockShifter_of_within (f : Format) {t : Transmission} (ht : l.shifter = .sending t)
    (h : t.clocks + 1 < characterClocks t.format ∨ t.rest = []) :
    l.clockShifter f =
      { l with shifter := .sending { t with clocks := min (characterClocks t.format) (t.clocks + 1) } } := by
  simp [Line.clockShifter, ht, h]

/-- At the end of a character that is not the last, the next one starts in the format that is its own. -/
theorem Line.clockShifter_of_end (f : Format) {t : Transmission} (ht : l.shifter = .sending t)
    (hc : characterClocks t.format ≤ t.clocks + 1) (hr : t.rest ≠ []) :
    l.clockShifter f = l.sendPieces t.what (t.nextFormat f) t.rest := by
  have : ¬t.clocks + 1 < characterClocks t.format := by omega
  simp [Line.clockShifter, ht, this, hr]

/-- The clock moves the receiver's position, or the preceding sample of its search, and nothing else of the line. -/
theorem Line.clockReceiver_eq (l : Line) :
    l.clockReceiver =
      { l with
        receiver :=
          { l.receiver with
            clocks :=
              if l.receiver.phase ≠ .search ∧ l.receiver.loop = true then l.receiver.clocks + 1 else l.receiver.clocks
            before := if l.receiver.phase = .search then l.loopLevel else l.receiver.before } } := by
  unfold Line.clockReceiver
  by_cases h1 : l.receiver.phase = .search
  · rw [if_pos h1, if_pos h1, if_neg fun h => h.1 h1]
  · rw [if_neg h1, if_neg h1]
    by_cases h2 : l.receiver.loop = true
    · rw [if_pos h2, if_pos ⟨h1, h2⟩]
    · rw [if_neg h2, if_neg fun h => h2 h.2]

/-- The idle-gap timer counts clock periods, and bit periods where they make one up, up to its limit. -/
theorem Line.clockIdle_eq (l : Line) (f : Format) :
    l.clockIdle f =
      { l with
        idleBits :=
          if l.idleRuns = true ∧ l.idleBits < l.idleLimit f ∧ bitClocks f ≤ l.idleClocks + 1 then l.idleBits + 1
          else l.idleBits
        idleClocks :=
          if l.idleRuns = true ∧ l.idleBits < l.idleLimit f then
            if l.idleClocks + 1 < bitClocks f then l.idleClocks + 1 else 0
          else l.idleClocks } := by
  unfold Line.clockIdle
  by_cases h1 : l.idleRuns = true <;> by_cases h2 : l.idleBits < l.idleLimit f <;>
    by_cases h3 : l.idleClocks + 1 < bitClocks f <;>
    simp [h1, h2, h3, Nat.not_le.2, Nat.not_lt.1]

/-! ### Counts that have come to their end -/

/-- Between the instants of a looped receiver only the position and the samples of the receiver change. -/
theorem Line.hearBits_eq (s : State) (l : Line) :
    l.hearBits s =
      { l with
        receiver :=
          { l.receiver with
            clocks := (l.hearBits s).receiver.clocks
            samples := (l.hearBits s).receiver.samples } } := by
  unfold Line.hearBits Line.takeSample Line.restartMark
  split <;> [split; skip] <;> first | rfl | (split <;> rfl)

/-- A line whose shifter, receiver and idle-gap timer have not come to an instant only hears bits. -/
theorem Line.endCounts_of_none (hs : l.sentOut = false) (hr : l.instantDue s = false)
    (hi : l.idleEnded (s.formatOf l) = false) : l.endCounts s = l.hearBits s := by
  have h : (l.hearBits s).idleEnded (s.formatOf l) = false := by
    rw [Line.hearBits_eq]
    exact hi
  simp [Line.endCounts, Line.endShifter, hs, Line.hear, hr, Line.checkIdleGap, h]

/-- What leads to a state where nothing is due needs nothing carried out after it. -/
theorem State.untold_settled {f : State → State} (h : (f s).settled = true) : s.untold f = f s := by
  have hw : (f s).watchIdle = f s := by
    have h1 := h
    simp only [State.settled, Bool.and_eq_true, Bool.or_eq_true, beq_iff_eq] at h1
    obtain ⟨⟨⟨-, h1⟩, -⟩, -⟩ := h1
    rw [State.watchIdle_eq]
    rcases h1 with h1 | h1
    · simp [h1]
    · rw [← h1]
      simp
  rw [State.untold, hw, State.finishInstant_settled h]

/-- What is due does not depend on the receivers. -/
theorem State.settled_of_receivers {f : LineNo → Line → Line} (r : LineNo → Receiver)
    (h : ∀ n, f n (s.line n) = { s.line n with receiver := r n }) : (s.onLines f).settled = s.settled := by
  have hl : ∀ n, (s.onLines f).line n = { s.line n with receiver := r n } := fun n => (s.line_onLines n f).trans (h n)
  simp only [State.settled, State.holdsDue, State.timeoutDue, State.tickDue, State.resweepDue, State.guardDue,
    State.autoDozeDue, State.standbyDue, State.countsOpen, State.watchedIdle, State.idleCondition, State.mayDoze,
    State.anyTxActive, State.allDrained, hl]
  rfl

/-- Where no settle period, beat, shifter, idle gap or receiver of a line has come to an instant, the receivers hear bits
and nothing else is carried out untold. -/
theorem State.endCounts_of_none (h : s.settled = true) (hp : s.power ≠ .waking ∨ s.settleClocks ≠ 2048)
    (hb : s.windowShut = true ∨ s.beatClocks ≠ 7200)
    (hl : ∀ n, (s.line n).sentOut = false ∧ (s.line n).instantDue s = false ∧
      (s.line n).idleEnded (s.formatOf (s.line n)) = false) :
    s.endCounts = if s.clockRuns then s.onLines fun _ l => l.hearBits s else s := by
  have h1 : s.endSettle = s := by
    rcases hp with hp | hp <;> simp [State.endSettle, Config.settleClocks, hp]
  have h2 : s.endBeat = s := by
    rcases hb with hb | hb <;> simp [State.endBeat, State.clockRuns, Config.clocksPerBeat, hb]
  have h3 : ∀ n, (s.line n).endCounts s = (s.line n).hearBits s := fun n =>
    Line.endCounts_of_none (hl n).1 (hl n).2.1 (hl n).2.2
  have h4 : s.endLines = s.onLines fun _ l => l.hearBits s := by
    have h5 : ∀ n, (s.line n).tells ((s.line n).endCounts s) = false := fun n => by
      rw [h3, Line.hearBits_eq]
      simp [Line.tells]
    have h6 : (s.onLines fun _ l => l.endCounts s) = s.onLines fun _ l => l.hearBits s := by
      simp only [State.onLines, h3]
    simp [State.endLines, h5, h6]
  simp only [State.endCounts, h1, h2]
  split
  · rw [State.untold_settled, h4]
    rw [h4, State.settled_of_receivers (fun n => ((s.line n).hearBits s).receiver), h]
    exact fun n => by
      rw [Line.hearBits_eq]
  · rfl

/-- A step on an empty queue where nothing is due: the counts at their end, then one period. -/
theorem idle_settled (h : s.settled = true) : idle s = .next s.endCounts.countClock.watchIdle := command_settled h

/-! ### VISIT at the instant of a beat boundary -/

/-- A line that needs service without the resweep and the SENSE levels of the instant is visited before them. -/
theorem visitNow_of_some (h : s.firstLine Line.neededService = some n) (hm : s.mayVisit = true) :
    visitNow s = beginVisit s.watchIdle n := by simp [visitNow, h, hm]

/-- With no such line the sequencer chooses when everything of the instant has been carried out. -/
theorem visitNow_of_none (h : s.firstLine Line.neededService = none ∨ s.mayVisit = false) :
    visitNow s = nextVisit s.finishInstant := by
  unfold visitNow
  rcases h with h | h
  · rw [h]
  · split <;> simp [h]

/-- With nothing to report, the STATUS step is skipped (R36). -/
theorem statusStep_of_none (h : (s.line n).pendingBefore = false) : statusStep s n = s := by simp [statusStep, h]

/-- Once the instant of the boundary is over, what the STATUS step reports is what the line holds. -/
theorem Line.before_of_none (h : l.countBefore = none) :
    l.senseBefore = l.sense ∧ l.changesBefore = l.changeCount ∧ l.pendingBefore = l.statusPending := by
  simp [Line.senseBefore, Line.changesBefore, Line.pendingBefore, h]

end Sys2Proof.Machine
end

