-- ==== Sys2Proof/Laws/Exec.lean ====
section
/-! SUPPORT. What `exec` is for each command, as one equation: proofs rewrite with it and unfold no meaning. -/

namespace Sys2Proof.Machine

variable (s : State)

theorem exec_start : exec .start s = command (fun s => s.commanded State.start) s := rfl
theorem exec_stop : exec .stop s = command (fun s => s.commanded State.stop) s := rfl
theorem exec_pause : exec .pause s = command (fun s => s.commanded State.pause) s := rfl
theorem exec_resume : exec .resume s = command (fun s => s.commanded State.resume) s := rfl
theorem exec_hostReset : exec .hostReset s = command State.commandReset s := rfl
theorem exec_pinReset : exec .pinReset s = .next s.pinReset := rfl
theorem exec_cancelRx (value : Word) :
    exec (.cancelRx value) s = command (fun s => s.commanded fun s => s.markCancelRx (lineOf value)) s := rfl
theorem exec_cancelTx (value : Word) :
    exec (.cancelTx value) s = command (fun s => s.commanded fun s => s.markCancelTx (lineOf value)) s := rfl
theorem exec_resetLine (value : Word) :
    exec (.resetLine value) s = command (fun s => s.commanded fun s => s.resetLineCmd (lineOf value)) s := rfl
theorem exec_doorbell (value : Word) : exec (.doorbell value) s = command (fun s => s.writeDoorbell value) s := rfl
theorem exec_reqActive (value : Word) :
    exec (.reqActive value) s = command (fun s => s.reqActive (autoDozeBit value)) s := rfl
theorem exec_reqDoze (value : Word) :
    exec (.reqDoze value) s = command (fun s => s.reqDoze (autoDozeBit value)) s := rfl
theorem exec_reqStandby (value : Word) :
    exec (.reqStandby value) s = command (fun s => s.reqStandby (autoDozeBit value)) s := rfl
theorem exec_control (value : Word) : exec (.control value) s = command (fun s => s.writeControl value) s := rfl
theorem exec_keepalive (value : Word) : exec (.keepalive value) s = command (fun s => s.writeKeepalive value) s := rfl
theorem exec_livenessPeriod (value : Word) :
    exec (.livenessPeriod value) s = command (fun s => s.writeLivenessPeriod value) s := rfl
theorem exec_tableBase (value : Word) : exec (.tableBase value) s = command (fun s => s.writeTableBase value) s := rfl
theorem exec_lineSetting (value : Word) :
    exec (.lineSetting value) s = command (fun s => s.writeLineSetting value) s := rfl
theorem exec_lineFrame (value : Word) : exec (.lineFrame value) s = command (fun s => s.writeLineFrame value) s := rfl
theorem exec_customDivisor (value : Word) :
    exec (.customDivisor value) s = command (fun s => s.writeCustomDivisor value) s := rfl
theorem exec_cadence (value : Word) : exec (.cadence value) s = command (fun s => s.writeCadence value) s := rfl
theorem exec_resweep (value : Word) : exec (.resweep value) s = command (fun s => s.writeResweep value) s := rfl
theorem exec_coalesce (value : Word) : exec (.coalesce value) s = command (fun s => s.writeCoalesce value) s := rfl
theorem exec_classDataWrite (value : Word) :
    exec (.classDataWrite value) s = command (fun s => s.writeClassData value) s := rfl
theorem exec_classDataRead (lanes : Lanes) :
    exec (.classDataRead lanes) s = command (fun s => s.readRegister lanes .classData) s := rfl
theorem exec_conDataWrite (value : Word) :
    exec (.conDataWrite value) s = command (fun s => s.writeConData value) s := rfl
theorem exec_conDataRead (lanes : Lanes) :
    exec (.conDataRead lanes) s = command (fun s => s.readRegister lanes .conData) s := rfl
theorem exec_conStatus (lanes : Lanes) :
    exec (.conStatus lanes) s = command (fun s => s.readRegister lanes .conStatus) s := rfl
theorem exec_eventTake (lanes : Lanes) :
    exec (.eventTake lanes) s = command (fun s => s.readRegister lanes .eventTake) s := rfl
theorem exec_eventLevel (lanes : Lanes) :
    exec (.eventLevel lanes) s = command (fun s => s.readRegister lanes .eventLevel) s := rfl
theorem exec_status (lanes : Lanes) :
    exec (.status lanes) s = command (fun s => s.readRegister lanes .status) s := rfl
theorem exec_registerWrite (offset : BitVec 8) (lanes : Lanes) (value : Word) :
    exec (.registerWrite offset lanes value) s = command (fun s => s.writeOffset offset lanes value) s := rfl
theorem exec_visit : exec .visit s = expiry (fun s => visitNow s.finishGuard) s := rfl
theorem exec_wordRead (txn : Nat) (answer : WordAnswer) :
    exec (.wordRead txn answer) s = answered txn (fun s => answerWordRead s txn answer) s := rfl
theorem exec_wordWrite (txn : Nat) (answer : WriteAnswer) :
    exec (.wordWrite txn answer) s = answered txn (fun s => answerWordWrite s txn answer) s := rfl
theorem exec_byteWrite (txn : Nat) (answer : WriteAnswer) :
    exec (.byteWrite txn answer) s = answered txn (fun s => answerByteWrite s txn answer) s := rfl
theorem exec_byteRead (txn : Nat) (answer : ByteAnswer) :
    exec (.byteRead txn answer) s = answered txn (fun s => answerByteRead s txn answer) s := rfl
theorem exec_timeout : exec .timeout s = expiry State.finishVisit s := rfl
theorem exec_completion (line : LineNo) (data : Byte) (parityBit stopBit : Bool) :
    exec (.completion line data parityBit stopBit) s = command (fun s => s.completeAt line data parityBit stopBit) s := rfl
theorem exec_breakSeen (line : LineNo) :
    exec (.breakSeen line) s = command (fun s => s.completeAt line 0 false false) s := rfl
theorem exec_recoverEnd (line : LineNo) :
    exec (.recoverEnd line) s = command (fun s => s.atLine line (Line.recoverEnds s)) s := rfl
theorem exec_shifterEmpty (line : LineNo) :
    exec (.shifterEmpty line) s = command (fun s => s.atLine line (Line.tellEmpty s)) s := rfl
theorem exec_breakDone (line : LineNo) :
    exec (.breakDone line) s = command (fun s => s.atLine line Line.tellBreakDone) s := rfl
theorem exec_idleDue (line : LineNo) : exec (.idleDue line) s = command (fun s => s.idleAt line) s := rfl
theorem exec_fallingEdge (line : LineNo) :
    exec (.fallingEdge line) s = command (fun s => s.atLine line (Line.fallingEdge s)) s := rfl
theorem exec_startBitSample (line : LineNo) (level : Bool) :
    exec (.startBitSample line level) s = command (fun s => s.atLine line fun l => l.startSample level) s := rfl
theorem exec_beatBoundary (sense : BitVec 16) :
    exec (.beatBoundary sense) s = command (fun s => s.beat sense) s := rfl
theorem exec_resweepExpiry : exec .resweepExpiry s = expiry State.expireResweep s := rfl
theorem exec_tick : exec .tick s = expiry State.expireTick s := rfl
theorem exec_holdDue (line : LineNo) : exec (.holdDue line) s = expiry (fun s => s.expireHold line) s := rfl
theorem exec_guardExpiry : exec .guardExpiry s = expiry (fun s => s.finishVisit.expireGuard) s := rfl
theorem exec_automaticDoze : exec .automaticDoze s = expiry (fun s => s.finishTimers.enterAutoDoze) s := rfl
theorem exec_standby : exec .standby s = expiry State.finishInstant s := rfl
theorem exec_wakeEdge (starts senses : BitVec 16) :
    exec (.wakeEdge starts senses) s = command (fun s => s.wakeEdges starts senses) s := rfl
theorem exec_wakingEnd : exec .wakingEnd s = command State.wakingEnds s := rfl

end Sys2Proof.Machine
end

