-- ==== Sys2Proof/Laws/Framing.lean ====
section
/-! SUPPORT. What the framing operations give: the stuffed form of a byte, the CRC of a longer payload, and how many
entries a step of the framed receive machine may queue. -/

namespace Sys2Proof.Machine

variable {l : Line} {mark esc v : Byte}

/-- A byte other than MARK and ESCAPE stands for itself. -/
theorem stuffed_plain (h1 : v ≠ mark) (h2 : v ≠ esc) : stuffed mark esc v = [v] := by simp [stuffed, h1, h2]

/-- MARK and ESCAPE are sent as ESCAPE and their one's complement. -/
theorem stuffed_special (h : v = mark ∨ v = esc) : stuffed mark esc v = [esc, ~~~v] := by simp [stuffed, h]

/-- The CRC of an empty payload is the preset. -/
@[simp] theorem crcOf_nil : crcOf [] = 0xFFFF := rfl

/-- One more payload byte is combined last. -/
@[simp] theorem crcOf_append (p : List Byte) (b : Byte) : crcOf (p ++ [b]) = crcByte (crcOf p) b := by
  simp [crcOf, List.foldl_append]

/-- A FRAME_END joins a queue with room. -/
theorem Line.joinFrameEnd_room (st : FrameStatus) (h : l.queue.length < 8) :
    l.joinFrameEnd st = l.join (.frameEnd st) := by simp [Line.joinFrameEnd, Config.queueCapacity, h]

/-- A FRAME_END for a full queue is dropped and counted. -/
theorem Line.joinFrameEnd_full (st : FrameStatus) (h : 8 ≤ l.queue.length) :
    l.joinFrameEnd st = { l with framesDropped := min 255 (l.framesDropped + 1) } := by
  have : ¬l.queue.length < 8 := by omega
  simp [Line.joinFrameEnd, Config.queueCapacity, this]

/-- The end of a frame begins the next. -/
@[simp] theorem Line.endFrame_frameRx (st : FrameStatus) : (l.endFrame st).frameRx = .collect := rfl

/-- A condemned frame queues nothing. -/
@[simp] theorem Line.poison_queue (st : FrameStatus) : (l.poison st).queue = l.queue := rfl

/-- A byte that finds the tail pair full passes the older byte to the queue, where there is room for it. -/
theorem Line.addFrameByte_full {older newer b : Byte} (h : l.tail = [older, newer]) (hq : l.queue.length ≤ 6) :
    l.addFrameByte b =
      { l.join (.data older false false false 0) with
        frameRx := .collect
        rxCrc := crcByte l.rxCrc older
        tail := [newer, b]
        frameBytes := min 3 (l.frameBytes + 1) } := by
  simp [Line.addFrameByte, h, Config.framedDataLimit, hq]

/-- A byte that finds room in the tail pair stays there. -/
theorem Line.addFrameByte_tail {b : Byte} (h : l.tail.length ≤ 1) :
    l.addFrameByte b =
      { l with frameRx := .collect, tail := l.tail ++ [b], frameBytes := min 3 (l.frameBytes + 1) } := by
  match ht : l.tail with
  | [] => simp [Line.addFrameByte, ht]
  | [a] => simp [Line.addFrameByte, ht]
  | _ :: _ :: _ => simp [ht] at h

/-- One completion queues at most one entry on a framed line. -/
theorem Line.receiveFramed_queue_length (c : Completed) :
    (l.receiveFramed c).queue.length ≤ l.queue.length + 1 := by
  have hj : ∀ st, (l.endFrame st).queue.length ≤ l.queue.length + 1 := by
    intro st
    simp only [Line.endFrame, Line.beginFrame, Line.joinFrameEnd]
    split
    · simp [Line.join]
    · simp
  have ha : ∀ b, (l.addFrameByte b).queue.length ≤ l.queue.length + 1 := by
    intro b
    unfold Line.addFrameByte
    split
    · split
      · simp [Line.join]
      · simp [Line.poison]
    · simp
    · simp
  have he : ∀ st, (l.frameErrorSeen st).queue.length ≤ l.queue.length + 1 := by
    intro st; unfold Line.frameErrorSeen; split <;> simp [Line.poison]
  cases c with
  | brk => exact he _
  | char v parity framing =>
    simp only [Line.receiveFramed]
    split
    · exact he _
    · split
      · exact he _
      · split
        · unfold Line.frameMarkSeen
          split
          · simp [Line.beginFrame]
          · split
            · simp
            · split <;> exact hj _
          · exact hj _
          · exact hj _
        · split
          · unfold Line.frameEscapeSeen
            split <;> simp [Line.poison]
          · unfold Line.frameByteSeen
            split <;> first | exact ha _ | simp

end Sys2Proof.Machine
end

