-- ==== Sys2Proof/Laws/Transmit.lean ====
section
/-! SUPPORT. What the shifter is given, and what the transmitter does when a line is tended: nothing where it has nothing
to start, and then only the hold timer follows its conditions. -/

namespace Sys2Proof.Machine

variable {s : State} {l : Line}

/-! ### What the shifter is given -/

/-- A character sent as it is: the shifter takes it on the route in force, and nothing else changes (R55). -/
theorem Line.sendPieces_plain (l : Line) (what : Sending) (f : Format) (b : Byte) (rest : List Piece) :
    l.sendPieces what f (.plain b :: rest) = { l with shifter := l.starting what b rest f } := rfl

/-- The shifter sends once it has been given pieces. -/
theorem Line.sendPieces_shifter_ne (l : Line) (what : Sending) (f : Format) {pieces : List Piece} (h : pieces ≠ []) :
    (l.sendPieces what f pieces).shifter ≠ .empty := by
  cases pieces with
  | nil => exact absurd rfl h
  | cons p rest => simp [Line.sendPieces]

/-- A raw character leaves holding for the shifter (R55). -/
theorem Line.sendCharacter_eq (l : Line) (f : Format) (h : Holding) :
    l.sendCharacter f h =
      { l with holding := none, ownByte := false, shifter := l.starting .character h.byte [] f } := rfl

/-- The abort pair (R122). -/
theorem Line.sendAbort_eq (l : Line) (f : Format) :
    l.sendAbort f =
      { l with
        abortPending := false
        txPhase := .abort
        shifter := l.starting .abortPair l.escapeChar [.plain l.markChar] f } := rfl

/-- A FIRST byte opens the frame: its MARK goes first, and the CRC register starts at 0xFFFF (R121). -/
theorem Line.sendPayload_first (l : Line) (f : Format) {h : Holding} (hf : h.first = true) :
    l.sendPayload f h =
      { l with
        holding := none
        ownByte := false
        txPhase := .opening
        txCrc := 0xFFFF
        shifter :=
          l.starting (.frame h.last) l.markChar
            (.payload h.byte :: if h.last then [.crcHigh, .crcLow, .closing] else []) f } := by
  simp [Line.sendPayload, Holding.pieces, hf, Line.sendPieces, Line.pieceChars, piecePhase, pieceCrc, Line.starting]

/-- Any other payload byte enters in its stuffed form, and the CRC register takes it (R121). -/
theorem Line.sendPayload_next (l : Line) (f : Format) {h : Holding} (hf : h.first = false) :
    l.sendPayload f h =
      { l with
        holding := none
        ownByte := false
        txPhase := .payload
        txCrc := crcByte l.txCrc h.byte
        shifter :=
          if h.byte = l.markChar ∨ h.byte = l.escapeChar then
            l.starting (.frame h.last) l.escapeChar
              (.plain (~~~h.byte) :: if h.last then [.crcHigh, .crcLow, .closing] else []) f
          else l.starting (.frame h.last) h.byte (if h.last then [.crcHigh, .crcLow, .closing] else []) f } := by
  simp only [Line.sendPayload, Holding.pieces, hf, Line.sendPieces, Line.pieceChars, piecePhase, pieceCrc,
    Line.starting, stuffed, Bool.false_eq_true, if_false, List.nil_append, List.cons_append]
  split <;> simp

/-! ### Tending a line -/

/-- The transmitter has nothing to start: the shifter is busy, the line is in hold state, or there is neither an abort
pair, an underrun nor a byte in holding (R55, R105, R122, R123). -/
def Line.calm (s : State) (l : Line) : Prop :=
  l.shifter ≠ .empty ∨ l.inHold = true ∨
    (l.abortPending = false ∧ l.underruns (s.seq == .quiesced) = false ∧ l.holding = none)

/-- A calm transmitter starts nothing. -/
theorem Line.feedShifter_of_calm (h : l.calm s) : l.feedShifter s = l := by
  unfold Line.feedShifter
  rcases h with h | h | ⟨h1, h2, h3⟩
  · simp [h]
  · simp [h]
  · split
    · rfl
    · simp [h1, h2, h3]

/-- A transmitter that is not calm fills its shifter. -/
theorem Line.feedShifter_of_not_calm (h : ¬l.calm s) : l.shifter = .empty ∧ (l.feedShifter s).shifter ≠ .empty := by
  simp only [Line.calm, not_or, not_and, ne_eq, not_not, Bool.not_eq_true] at h
  obtain ⟨h1, h2, h3⟩ := h
  refine ⟨h1, ?_⟩
  unfold Line.feedShifter
  simp only [h1, h2, ne_eq, not_true, false_or, Bool.false_eq_true, if_false]
  by_cases ha : l.abortPending = true
  · simp [ha, Line.sendAbort_eq, Line.starting]
  · simp only [Bool.not_eq_true] at ha
    by_cases hu : l.underruns (s.seq == .quiesced) = true
    · simp [ha, hu, Line.sendAbort_eq, Line.starting]
    · simp only [Bool.not_eq_true] at hu
      have h4 := h3 ha hu
      cases hh : l.holding with
      | none => exact absurd hh h4
      | some x =>
        simp only [ha, hu, Bool.false_eq_true, if_false]
        split
        · exact Line.sendPieces_shifter_ne _ _ _ (by simp [Holding.pieces])
        · exact Line.sendPieces_shifter_ne _ _ _ (by simp)

/-- Tending a line with a calm transmitter only lets its hold timer follow. -/
theorem Line.tend_of_calm (h : l.calm s) : Line.tend s l = l.tendHoldTimer := by
  rw [Line.tend, Line.feedShifter_of_calm h]

/-- The hold timer is cleared exactly where its conditions do not hold. -/
theorem Line.tendHoldTimer_eq (l : Line) :
    l.tendHoldTimer =
      { l with
        holdCount := if l.holdTimed then l.holdCount else 0
        holdStopped := if l.holdTimed then l.holdStopped else false } := by
  unfold Line.tendHoldTimer
  split <;> rfl

/-- A line is at rest exactly where its transmitter is calm and a hold timer that does not run stands at 0. -/
theorem Line.atRest_iff :
    l.atRest s ↔ l.calm s ∧ (l.holdTimed = false → l.holdCount = 0 ∧ l.holdStopped = false) := by
  constructor
  · intro h
    by_cases hc : l.calm s
    · refine ⟨hc, fun ht => ?_⟩
      rw [Line.atRest, Line.tend_of_calm hc, Line.tendHoldTimer_eq] at h
      have h1 := congrArg Line.holdCount h
      have h2 := congrArg Line.holdStopped h
      simp only [ht] at h1 h2
      exact ⟨h1.symm, h2.symm⟩
    · exfalso
      obtain ⟨h1, h2⟩ := Line.feedShifter_of_not_calm hc
      have h3 := congrArg Line.shifter h
      rw [Line.tend, Line.tendHoldTimer_eq] at h3
      exact h2 (h3.trans h1)
  · rintro ⟨hc, ht⟩
    rw [Line.atRest, Line.tend_of_calm hc, Line.tendHoldTimer_eq]
    cases hh : l.holdTimed with
    | true => rfl
    | false =>
      obtain ⟨h1, h2⟩ := ht hh
      simp only [Bool.false_eq_true, if_false]
      rw [← h1, ← h2]

/-- Tending a line whose transmitter is calm and whose hold timer is in order changes nothing. -/
theorem Line.tend_eq_self (hc : l.calm s) (ht : l.holdTimed = false → l.holdCount = 0 ∧ l.holdStopped = false) :
    Line.tend s l = l := Line.atRest_iff.2 ⟨hc, ht⟩

/-- A line that agrees with a line at rest on what tending reads is at rest too. -/
theorem Line.atRest_of_agrees {l' : Line} (h : l.atRest s) (hshifter : l'.shifter = l.shifter)
    (hsetting : l'.setting = l.setting) (hsense : l'.sense = l.sense) (hinband : l'.inbandHold = l.inbandHold)
    (habort : l'.abortPending = l.abortPending) (hphase : l'.txPhase = l.txPhase) (hholding : l'.holding = l.holding)
    (hcount : l'.holdCount = l.holdCount) (hstopped : l'.holdStopped = l.holdStopped)
    (horder : l'.txOrder.isSome = true ∨ l'.txOrder = l.txOrder ∨ l.holding = none) : l'.atRest s := by
  rw [Line.atRest_iff] at h ⊢
  refine ⟨?_, fun ht => ?_⟩
  · have := h.1
    simp only [Line.calm, Line.inHold, Line.underruns, Line.payloadHeld, hshifter, hsetting, hsense, hinband, habort,
      hphase, hholding] at this ⊢
    exact this
  · rw [hcount, hstopped]
    apply h.2
    simp only [Line.holdTimed, Line.inHold, hsetting, hsense, hinband, hholding] at ht ⊢
    rcases horder with h1 | h1 | h1
    · simp_all
    · simp_all
    · simp [h1]

/-- What the beginning of a close clears leaves a line at rest. -/
theorem Line.beginClose_atRest (d : Dir) (h : l.atRest s) : (l.beginClose d).atRest s := by
  cases d <;> exact Line.atRest_of_agrees h rfl rfl rfl rfl rfl rfl rfl rfl rfl (Or.inr (Or.inl rfl))

end Sys2Proof.Machine
end

