-- ==== Sys2Proof/Laws/Ops.lean ====
section
/-! SUPPORT. What each shared operation can do, said once: queues, events, moves of the sequencer, the memory engine,
closes and the end of a visit. Later proofs cite these and unfold no operation. -/

namespace Sys2Proof.Machine

variable {s t u : State} {l : Line} {n : LineNo} {v : Visit}

/-! ### The receive queue -/

/-- The newest entry of a queue that is not empty is marked (R53). -/
theorem lossOnNewest_append (q : List Entry) (e : Entry) : lossOnNewest (q ++ [e]) = q ++ [e.lossAfter] := by
  induction q with
  | nil => rfl
  | cons a q ih =>
    cases q with
    | nil => rfl
    | cons b q => simpa [lossOnNewest] using ih

/-- Marking the newest entry keeps the count. -/
@[simp] theorem lossOnNewest_length (q : List Entry) : (lossOnNewest q).length = q.length := by
  induction q with
  | nil => rfl
  | cons a q ih =>
    cases q with
    | nil => rfl
    | cons b q => simpa [lossOnNewest] using ih

/-- The pacing flag after a change of the count agrees with the new count (R108). -/
theorem pacingAfter_agrees (flag : Bool) (count : Nat) :
    (6 ≤ count → pacingAfter flag count = false) ∧ (count ≤ 2 → pacingAfter flag count = true) := by
  unfold pacingAfter
  refine ⟨fun h => by simp [h], fun h => ?_⟩
  have : ¬6 ≤ count := by omega
  simp [h, this]

/-- An entry joins: the queue grows by one at its tail and the pacing flag follows. -/
@[simp] theorem Line.join_queue (e : Entry) : (l.join e).queue = l.queue ++ [e] := rfl

/-- Nothing but the queue and the pacing flag changes when an entry joins. -/
theorem Line.join_eq (e : Entry) :
    l.join e =
      { l with queue := l.queue ++ [e], pacing := pacingAfter l.pacing (l.queue.length + 1) } := rfl

/-- The head leaves a queue that is not empty. -/
theorem Line.pop_cons {e : Entry} {rest : List Entry} (h : l.queue = e :: rest) :
    l.pop =
      { l with
        queue := rest
        pacing := pacingAfter l.pacing rest.length
        remnant := l.remnant && !e.isFrameEnd } := by simp [Line.pop, h]

/-- Nothing leaves an empty queue. -/
theorem Line.pop_nil (h : l.queue = []) : l.pop = l := by simp [Line.pop, h]

/-- An asynchronous entry joins or marks the newest as followed by a loss. -/
theorem Line.joinOrLose_cases (e : Entry) :
    (l.queue.length < 8 ∧ l.joinOrLose e = l.join e) ∨
      (8 ≤ l.queue.length ∧ l.joinOrLose e = { l with queue := lossOnNewest l.queue }) := by
  unfold Line.joinOrLose
  by_cases h : l.queue.length < 8
  · exact .inl ⟨h, by simp [h, Config.queueCapacity]⟩
  · exact .inr ⟨by omega, by simp [h, Config.queueCapacity]⟩

/-! ### The event queue -/

/-- An event joins a queue with room. -/
theorem State.offer_room (e : EventRec) (h : s.events.length < 32) :
    s.offer e = { s with events := s.events ++ [e] } := by simp [State.offer, h, Config.eventCapacity]

/-- An event offered to a full queue is discarded and counted. -/
theorem State.offer_full (e : EventRec) (h : 32 ≤ s.events.length) :
    s.offer e = { s with overflow := true, lost := min 65535 (s.lost + 1) } := by
  have : ¬s.events.length < 32 := by omega
  simp [State.offer, this, Config.eventCapacity]

/-- Offering an event changes no field but the event port's. -/
theorem State.offer_eq (e : EventRec) :
    s.offer e =
      { s with events := (s.offer e).events, overflow := (s.offer e).overflow, lost := (s.offer e).lost } := by
  unfold State.offer; split <;> rfl

@[simp] theorem State.offer_lines (e : EventRec) : (s.offer e).lines = s.lines := by rw [State.offer_eq]

@[simp] theorem State.offer_line (e : EventRec) : (s.offer e).line n = s.line n := by simp [State.line]

@[simp] theorem State.offer_seq (e : EventRec) : (s.offer e).seq = s.seq := by rw [State.offer_eq]

@[simp] theorem State.offer_power (e : EventRec) : (s.offer e).power = s.power := by rw [State.offer_eq]

@[simp] theorem State.offer_req (e : EventRec) : (s.offer e).req = s.req := by rw [State.offer_eq]

@[simp] theorem State.offer_visit (e : EventRec) : (s.offer e).visit = s.visit := by rw [State.offer_eq]

@[simp] theorem State.offer_mem (e : EventRec) : (s.offer e).mem = s.mem := by rw [State.offer_eq]

@[simp] theorem State.offer_pending (e : EventRec) : (s.offer e).pending = s.pending := by rw [State.offer_eq]

/-- A take from an empty queue clears TICK and nothing else. -/
theorem State.takeEvent_nil (h : s.events = []) : s.takeEvent = { s with tick := false } := by
  simp [State.takeEvent, h]

/-- A take removes the head; after an overflow the LOSS marker joins. -/
theorem State.takeEvent_cons {e : EventRec} {rest : List EventRec} (h : s.events = e :: rest) :
    s.takeEvent =
      if s.overflow then
        { s with events := rest ++ [lossEvent s.lost], overflow := false, lost := 0, tick := false }
      else { s with events := rest, tick := false } := by simp [State.takeEvent, h]

/-! ### The sequencer's state -/

/-- Outside STANDBY_ENTRY the sequencer just takes the state. -/
theorem State.moveSeq_of_ne (q : SeqState) (h : s.power ≠ .standbyEntry) : s.moveSeq q = { s with seq := q } := by
  simp [State.moveSeq, h]

/-- In STANDBY_ENTRY a move to any state but STOPPED and PAUSED abandons the entry. -/
theorem State.moveSeq_of_entry (q : SeqState) (h : s.power = .standbyEntry) :
    s.moveSeq q =
      if q = .stopped ∨ q = .paused then { s with seq := q }
      else { s with seq := q, power := .active, req := .active } := by
  cases q <;> simp [State.moveSeq, h, State.abandonStandby]

/-- A move changes no line. -/
@[simp] theorem State.moveSeq_lines (q : SeqState) : (s.moveSeq q).lines = s.lines := by
  unfold State.moveSeq; split <;> rfl

/-- A requested doze that cannot be entered changes nothing. -/
theorem State.enterRequestedDoze_of_ne (h : s.req ≠ .doze) : s.enterRequestedDoze = s := by
  simp [State.enterRequestedDoze, h]

/-- DOZE is entered, or where a SENSE level was accepted at the same instant has ended at once (R159). -/
theorem State.enterDoze_eq (s : State) :
    s.enterDoze =
      { s with
        power := if s.dozeBarred then .active else .doze
        req := if s.dozeBarred then .active else s.req
        idleBeats := 0 } := by
  unfold State.enterDoze
  cases s.dozeBarred <;> rfl

/-- A requested doze is entered at once or not at all. -/
theorem State.enterRequestedDoze_cases :
    (s.req = .doze ∧ s.mayDoze = true ∧ s.enterRequestedDoze = s.enterDoze) ∨ s.enterRequestedDoze = s := by
  unfold State.enterRequestedDoze
  split
  · next h => exact .inl ⟨h.1, h.2, rfl⟩
  · exact .inr rfl

/-! ### The memory engine -/

/-- The answer that carries the outstanding transaction's number is awaited. -/
theorem State.awaited_self {x : Txn} (hv : s.visit = some v) (hm : s.mem = some x) :
    s.awaited x.tag = some (v, x) := by simp [State.awaited, hv, hm]

/-- No other answer is. -/
theorem State.awaited_none {tag : Nat} (h : ∀ x, s.mem = some x → x.tag ≠ tag) : s.awaited tag = none := by
  unfold State.awaited
  split
  · next hv hm => simp [h _ hm]
  · rfl

/-- An awaited answer belongs to the visit in progress and the outstanding transaction. -/
theorem State.awaited_some {tag : Nat} {x : Txn} (h : s.awaited tag = some (v, x)) :
    s.visit = some v ∧ s.mem = some x ∧ x.tag = tag := by
  unfold State.awaited at h
  split at h
  · next hv hm =>
    split at h
    · next ht => cases h; exact ⟨hv, hm, ht⟩
    · cases h
  · cases h

/-! ### Closes and the end of a visit -/

/-- On a line at rest a close clears what it clears and issues its first write. -/
theorem beginClose_of_rest (d : Dir) (order : Word) (length : Option Word) (h : (s.line v.line).atRest s) :
    beginClose s v d order length =
      match length with
      | some w => issueLengthWrite (s.setLine v.line ((s.line v.line).beginClose d)) v d order w
      | none => issueOrderWrite (s.setLine v.line ((s.line v.line).beginClose d)) v d order := by
  unfold beginClose
  simp only [State.onLine_eq]
  rw [Line.beginClose_atRest d h] <;> cases length <;> rfl

/-- A visit that ends plainly frees the memory engine and settles the sequencer. -/
theorem endVisit_plain (hr : v.resetHeld = false) (hs : s.seq = .running ∨ s.seq = .pausing ∨ s.seq = .stopping)
    (hp : s.power = .active) (hq : s.req ≠ .doze) :
    endVisit s v = { s with visit := none, mem := none, seq := s.seq.afterVisit } := by
  unfold endVisit
  rcases hs with h | h | h <;>
    simp [hr, State.settleSeq, h, State.moveSeq, hp, State.enterRequestedDoze, hq, SeqState.afterVisit]

/-- Whatever a visit's end does, no visit and no transaction remains. -/
theorem endVisit_visit (s : State) (v : Visit) : (endVisit s v).visit = none ∧ (endVisit s v).mem = none := by
  have h1 : ∀ x : State, x.enterRequestedDoze.visit = x.visit ∧ x.enterRequestedDoze.mem = x.mem := by
    intro x
    rcases State.enterRequestedDoze_cases (s := x) with ⟨-, -, h⟩ | h
    · rw [h, State.enterDoze_eq]
      exact ⟨rfl, rfl⟩
    · rw [h]
      exact ⟨rfl, rfl⟩
  have h2 : ∀ (x : State) (q : SeqState), (x.moveSeq q).visit = x.visit ∧ (x.moveSeq q).mem = x.mem := by
    intro x q; unfold State.moveSeq; split <;> exact ⟨rfl, rfl⟩
  have h3 : ∀ x : State, x.settleSeq.visit = x.visit ∧ x.settleSeq.mem = x.mem := by
    intro x
    unfold State.settleSeq
    split <;> first | exact h2 _ _ | exact ⟨rfl, rfl⟩
  unfold endVisit
  exact ⟨(h1 _).1.trans (h3 _).1, (h1 _).2.trans (h3 _).2⟩

end Sys2Proof.Machine
end

