-- ==== Sys2Proof/Laws/Receive.lean ====
section
/-! SUPPORT. The receiver and its input: the level of the transmitter's output on the loopback route, what each instant
of the receiver does, and what a receiver hears of that output. -/

namespace Sys2Proof.Machine

variable {s : State} {l : Line}

/-! ### The internal input (R60) -/

/-- An empty shifter leaves the internal input at mark. -/
theorem Line.loopLevel_of_empty (h : l.shifter = .empty) : l.loopLevel = true := by
  simp [Line.loopLevel, Shifter.looped, h]

/-- A character on the loopback route is what the receiver hears; on the pin's route the receiver hears mark. -/
theorem Line.loopLevel_of_sending {t : Transmission} (h : l.shifter = .sending t) :
    l.loopLevel = (!t.loop || t.level) := by
  simp [Line.loopLevel, Shifter.looped, Shifter.level, h]

/-- A break on the loopback route is space. -/
theorem Line.loopLevel_of_brk {times : Byte} {f : Format} {clocks : Nat} {loop : Bool}
    (h : l.shifter = .brk times f clocks loop) : l.loopLevel = !loop := by
  simp [Line.loopLevel, Shifter.looped, Shifter.level, h]

/-- The bit period after a break is mark. -/
theorem Line.loopLevel_of_brkMark {f : Format} {clocks : Nat} {loop : Bool}
    (h : l.shifter = .brkMark f clocks loop) : l.loopLevel = true := by
  simp [Line.loopLevel, Shifter.level, h]

/-! ### The receiver's instants -/

/-- An edge that comes starts a character in the format and on the input in force (R48, R63). -/
theorem Line.fallingEdge_of_fall (hp : l.receiver.phase = .search)
    (hf : setLoop l.setting = false ∨ l.loopFalls = true) :
    l.fallingEdge s = l.startCharacter (s.formatOf l) (setLoop l.setting) := by
  simp [Line.fallingEdge, hp, hf]

/-- Outside SEARCH, and in loopback where the transmitter's output does not fall, there is no edge. -/
theorem Line.fallingEdge_of_none
    (h : l.receiver.phase ≠ .search ∨ (setLoop l.setting = true ∧ l.loopFalls = false)) : l.fallingEdge s = l := by
  rcases h with h | ⟨h1, h2⟩ <;> simp [Line.fallingEdge, *]

/-- The start-bit sample confirms or drops the candidate by the level of the receiver's input (R48). -/
theorem Line.startSample_of_due (level : Bool) (hp : l.receiver.phase = .start)
    (hd : l.receiver.loop = false ∨ l.receiver.sampleDue = true) :
    l.startSample level =
      if l.sampledLevel level then l.enterSearch
      else { l with receiver := { l.receiver with phase := .assemble, samples := [false] } } := by
  simp [Line.startSample, hp, hd]

/-- In any other phase, and in loopback before its instant, the start bit is not sampled. -/
theorem Line.startSample_of_none (level : Bool)
    (h : l.receiver.phase ≠ .start ∨ (l.receiver.loop = true ∧ l.receiver.sampleDue = false)) :
    l.startSample level = l := by
  rcases h with h | ⟨h1, h2⟩ <;> simp [Line.startSample, *]

/-- A receiver at the pin hears nothing of the transmitter's output. -/
theorem Line.hear_of_pin (h : l.listens = false) : l.hear s = l := by
  simp [Line.hear, Line.instantDue, Line.hearBits, h]

/-- A completing receiver in loopback takes what it has sampled of the transmitter's output, whatever the row carries
(R60). -/
theorem Line.completedOf_of_loop (data : Byte) (parityBit stopBit : Bool) (h : l.receiver.loop = true) :
    l.completedOf data parityBit stopBit = l.completedOf 0 false false := by
  simp [Line.completedOf, Line.sampled, h]

/-- A completing receiver at the pin takes what the row carries. -/
theorem Line.completedOf_of_pin (data : Byte) (parityBit stopBit : Bool) (h : l.receiver.loop = false) :
    l.completedOf data parityBit stopBit = completed l.receiver.format data parityBit stopBit := by
  simp [Line.completedOf, Line.sampled, h]

/-! ### Rows that tell an end on the loopback route (log entry 40) -/

/-- Where the end may be told, SHIFTER_EMPTY and BREAK_DONE are it. -/
theorem Line.tell_of_told (h : l.endTold = true) : l.tellEmpty s = l.shifterEnds s ∧ l.tellBreakDone = l.breakEnds := by
  simp [Line.tellEmpty, Line.tellBreakDone, h]

/-- Where it may not, both change nothing. -/
theorem Line.tell_of_early (h : l.endTold = false) : l.tellEmpty s = l ∧ l.tellBreakDone = l := by
  simp [Line.tellEmpty, Line.tellBreakDone, h]

end Sys2Proof.Machine
end

