-- ==== Sys2Proof/Tests/Slice0.lean ====
section
/-! SUPPORT. The model's own tests: the well-formedness smoke test, one or two steps of each command with results taken
from the manual's tables and worked examples, and a witness for the hypotheses of every statement. -/

namespace Sys2Proof.Tests

open Sys2Proof.Machine

/-! ### Helpers -/

/-- The state a step answers. -/
def after (c : Instr) (s : State) : State :=
  match exec c s with
  | .next t => t
  | .fault _ | .refused _ => s

/-- The part after reset and START. -/
def running : State := { State.reset with seq := .running }

/-- The part in a power state. -/
def inPower (p : PowerState) : State := { State.reset with power := p }

/-- A framed line with the default frame characters. -/
def framedLine : Line := { Line.reset with setting := 0x00000435 }

/-- A DATA entry without flags. -/
def plainData (b : Byte) : Entry := .data b false false false 0

/-- An RX order. -/
def rxOrder (mode : RxMode) (count length : BitVec 16) : RxOrder where
  mode := mode
  flags := 0
  tag := 0x33
  datum := 0
  address := 0x1000
  length := length
  count := count
  overlong := false
  frameBegun := false

/-- A TX order. -/
def txOrder (mode : TxMode) (count length : BitVec 16) : TxOrder where
  mode := mode
  flags := 0
  tag := 0x2C
  datum := 0x41
  address := 0x2000
  length := length
  count := count
  settingWord := 0x00000035
  markChar := 0x11
  escapeChar := 0x12
  breakStarted := false

/-- A shifter that has just started a character, with what follows it. -/
def sends (what : Sending) (c : Byte) (rest : List Piece) (setting : Word) : Shifter :=
  .sending
    { what := what, char := c, rest := rest, clocks := 0, format := { setting := setting, divisor := 48 }
      loop := false }

/-- A shifter that sends one raw character. -/
def busy : Shifter := sends .character 0x55 [] 0x35

/-- A shifter that sends a break. -/
def breaking : Shifter := .brk 3 { setting := 0x35, divisor := 48 } 0 false

/-- A visit to a line at a point. -/
def visitTo (n : LineNo) (attn : Bool) (p : VisitPoint) : Visit where
  line := n
  attn := attn
  rxCancel := false
  txCancel := false
  resetHeld := false
  point := p

/-- The part in a visit whose transaction has number 7. -/
def visiting (n : LineNo) (l : Line) (attn : Bool) (p : VisitPoint) (request : MemRequest) (access : AccessKind) : State :=
  { running.setLine n l with
    visit := some (visitTo n attn p)
    mem := some { tag := 7, request := request, addr := 0x318, access := access, line := n, beats := 0 }
    txnCount := 8 }

/-- The same visit with a transaction that has met two beat boundaries. -/
def overdue (n : LineNo) (l : Line) (p : VisitPoint) (request : MemRequest) (access : AccessKind) : State :=
  { visiting n l false p request access with
    mem := some { tag := 7, request := request, addr := 0x318, access := access, line := n, beats := 2 } }

/-! ### Well-formedness -/

theorem test_wf_refuses_cancelRx_word_of_cancelTx : (Instr.cancelRx 0x203).wellFormed = false := by decide
theorem test_wf_refuses_cancelTx_word_of_resetLine : (Instr.cancelTx 0x303).wellFormed = false := by decide
theorem test_wf_refuses_resetLine_without_operation : (Instr.resetLine 0x003).wellFormed = false := by decide
theorem test_wf_refuses_reqActive_word_of_reqDoze : (Instr.reqActive 0x11).wellFormed = false := by decide
theorem test_wf_refuses_reqDoze_word_of_reqStandby : (Instr.reqDoze 0x02).wellFormed = false := by decide
theorem test_wf_refuses_reqStandby_reserved_value : (Instr.reqStandby 0x03).wellFormed = false := by decide
theorem test_wf_refuses_read_of_no_byte : (Instr.eventTake 0).wellFormed = false := by decide
theorem test_wf_refuses_write_of_no_byte : (Instr.registerWrite 0x40 0 5).wellFormed = false := by decide
theorem test_wf_refuses_unaligned_offset : (Instr.registerWrite 0x41 1 5).wellFormed = false := by decide
theorem test_wf_refuses_write_with_its_own_row : (Instr.registerWrite 0x14 wholeWord 5).wellFormed = false := by decide
theorem test_wf_accepts : (Instr.resetLine 0x30F).wellFormed = true ∧ (Instr.registerWrite 0x5C wholeWord 3).wellFormed = true ∧
    (Instr.registerWrite 0x14 3 5).wellFormed = true := by decide

/-! ### The host's commands (Table 15, Table 17, R40, Table 48) -/

theorem test_start_from_reset : (after .start State.reset).seq = .running := by decide
theorem test_stop_during_visit :
    (after .stop (visiting 9 Line.reset false .loadByte .byteRead .txBuffer)).seq = .stopping := by decide
theorem test_pause_between_visits : (after .pause running).seq = .paused := by decide
theorem test_resume_while_stopped : (after .resume State.reset).cmdIgnored = true := by decide
theorem test_hostReset_keeps_tableBase :
    (after .hostReset { running with tableBase := 0x8000, cadence := 4 }).tableBase = 0x8000 ∧
      (after .hostReset { running with tableBase := 0x8000, cadence := 4 }).cadence = 0 := by decide
theorem test_pinReset : after .pinReset { running with tableBase := 0x8000 } = State.reset := rfl
theorem test_cancelRx : ((after (.cancelRx 0x103) running).line 3).rxCancel = true := by decide
theorem test_cancelTx : ((after (.cancelTx 0x20F) running).line 15).txCancel = true := by decide
theorem test_resetLine_held_during_visit :
    (after (.resetLine 0x309) (visiting 9 framedLine false .loadByte .byteRead .txBuffer)).line 9 = framedLine := by
  decide
theorem test_doorbell_one_and_all :
    ((after (.doorbell 3) running).line 3).attn = true ∧ ((after (.doorbell 3) running).line 4).attn = false ∧
      ((after (.doorbell 0x100) running).line 4).attn = true := by decide
theorem test_reqActive_ends_doze : (after (.reqActive 0) (inPower .doze)).power = .active := by decide
theorem test_reqDoze_with_active_transmit_waits :
    (after (.reqDoze 1) (running.setLine 2 { Line.reset with txOrder := some (txOrder .block 0 4), shifter := busy })).power =
      .active := by decide
theorem test_reqStandby_while_running_is_refused :
    (after (.reqStandby 2) running).writeIgnored = true ∧ (after (.reqStandby 2) running).power = .active := by decide

/-! ### Registers -/

theorem test_control_arms_guard :
    (after (.control 0x101) { State.reset with livenessPeriod := 9 }).guardCount = 9 ∧
      (after (.control 0x101) State.reset).guardCount = 1 := by decide
theorem test_keepalive_refresh :
    (after (.keepalive 0xC3) { State.reset with livenessEn := true, guardRunning := true, guardCount := 2
                                                livenessPeriod := 9, firstKey := true }).guardCount = 9 := by decide
theorem test_livenessPeriod_locked :
    (after (.livenessPeriod 5) { State.reset with livenessEn := true }).livenessPeriod = 0 := by decide
theorem test_tableBase_aligned : (after (.tableBase 0x12345FFF) State.reset).tableBase = 0x12345C00 := by decide
theorem test_lineSetting_parity_invalid : (after (.lineSetting 0x00000175) State.reset).writeIgnored = true := by decide
theorem test_lineFrame : ((after (.lineFrame 0x1211) State.reset).line 0).escapeChar = 0x12 := by decide
theorem test_customDivisor : (after (.customDivisor 0xFFFF0030) State.reset).customDivisor = 48 := by decide
theorem test_cadence_restarts : (after (.cadence 10) { State.reset with cadenceCount := 3, cadence := 7 }).cadenceCount = 0 := by
  decide
theorem test_resweep : (after (.resweep 0x10400) State.reset).resweep = 1024 := by decide
theorem test_coalesce : (after (.coalesce 0xABCDEF02) State.reset).ageLimit = 0xEF := by decide
theorem test_classData_write_wraps_index : (after (.classDataWrite 0x21) { State.reset with classIndex := 255 }).classIndex = 0 := by
  decide
set_option maxRecDepth 8000 in
/-- The printer example of section 6.7: entry 0x13 reads 0x01 and the index moves to 0x14. -/
theorem test_classData_read_of_default :
    (after (.classDataRead wholeWord) { State.reset with classIndex := 0x13 }).busData = [0x01, 0, 0, 0] ∧
      (after (.classDataRead wholeWord) { State.reset with classIndex := 0x13 }).classIndex = 0x14 := by decide
theorem test_conData_write_enters_shifter :
    ((after (.conDataWrite 0x141) State.reset).line 0).shifter =
      sends .character 0x41 [] 0x35 := by decide
theorem test_conData_read :
    (after (.conDataRead 1) (State.reset.setLine 0 { Line.reset with queue := [plainData 0x64] })).busData = [0x64] := by
  decide
theorem test_conStatus_after_reset : (after (.conStatus wholeWord) State.reset).busData = [0x00, 0x83, 0, 0] := by decide

/-- The queue of section 8.7: 32 records, an overflow of three, TICK set. -/
def overflowed : State :=
  { State.reset with
    events := List.replicate 32 { kind := .rxEnd, line := 1, a := 0, b := 0, c := 0, age := 0 }
    overflow := true
    lost := 3
    tick := true
    missed := 3 }

/-- Step 4 of section 8.7: the LOSS marker has B = 0 and C = 3, and the queue still holds 32 records. -/
theorem test_eventTake_inserts_loss :
    (after (.eventTake wholeWord) overflowed).events.getLast? =
        some { kind := .loss, line := 0, a := 0, b := 0, c := 3, age := 0 } ∧
      (after (.eventTake wholeWord) overflowed).events.length = 32 := by decide
/-- R134: EVENT_PEEK shows the head with TICK and MORE, and removes nothing. -/
theorem test_eventPeek_shows_head :
    overflowed.readWord .eventPeek = 0x23800000 ∧ overflowed.readEffect .eventPeek = overflowed :=
  ⟨by decide, rfl⟩
set_option maxRecDepth 8000 in
/-- Step 5 of section 8.7: count 32, OVERFLOW 0, LOST 0 and MISSED 3. -/
theorem test_eventLevel_after_take :
    (after (.eventLevel wholeWord) (after (.eventTake wholeWord) overflowed)).busData = [32, 3, 0, 0] := by decide
theorem test_status_after_reset : (after (.status wholeWord) State.reset).busData = [0, 0, 0x08, 0] := by decide
theorem test_registerWrite_narrow_is_ignored : (after (.registerWrite 0x10 3 0xFFFF) State.reset).writeIgnored = true := by
  decide
theorem test_registerWrite_lineSelect : (after (.registerWrite 0x5C wholeWord 0x1F) State.reset).lineSelect = 15 := by decide

/-! ### Visits and answers -/

/-- After a reset the first search begins at line 0 (R34). -/
theorem test_visit_first_line :
    (after .visit (after (.doorbell 0x100) running)).position = 0 ∧
      (after .visit (after (.doorbell 0x100) running)).mem.map (·.addr) = some 0 := by decide
/-- The STATUS event of section 3.9.2: bit 0 of A at 0, bit 1 at 1, B = 1. -/
theorem test_visit_status_event :
    (after .visit (running.setLine 11 { Line.reset with statusPending := true, changeCount := 1, lastReported := true })).events =
      [{ kind := .status, line := 11, a := 2, b := 1, c := 0, age := 0 }] := by decide
/-- The order of section 1.10 is written back with OWN = HOST, DATUM 4 and CODE 16. -/
theorem test_wordRead_rejects_framed_order :
    (after (.wordRead 7 (.ok 0xC2510000)) (visiting 6 Line.reset true (.fetchOrder .tx false) .wordRead .txOrderFetch)).mem.map
        (·.request) = some (.wordWrite 0x42510480) := by decide
/-- The end event of section 1.10: A = 16, B = 0x51, C = 4. -/
theorem test_wordWrite_ends_rejection :
    (after (.wordWrite 7 .ok)
        (visiting 6 Line.reset true (.writeOrder .tx 0x42510480) (.wordWrite 0x42510480) .txWriteback)).events =
      [{ kind := .txEnd, line := 6, a := 16, b := 0x51, c := 4, age := 0 }] := by decide
/-- The fourth entry of section 2.7.1 brings the count to 20 and the order closes DONE with COUNT 20. -/
theorem test_byteWrite_closes_at_length :
    (after (.byteWrite 7 .ok)
        (visiting 3 { Line.reset with rxOrder := some (rxOrder .block 19 20), queue := [plainData 0x61, plainData 0x62] } false
          (.storeByte 0) (.byteWrite 0x61) .rxBuffer)).mem.map (·.request) = some (.wordWrite 0x00140014) := by decide
/-- A byte read is answered: the byte is in holding and the order counts it (R87). -/
theorem test_byteRead_loads :
    ((after (.byteRead 7 (.ok 0x42))
        (visiting 2 { Line.reset with txOrder := some (txOrder .block 1 9), shifter := busy } false .loadByte .byteRead
          .txBuffer)).line 2).holding.map (·.byte) = some 0x42 := by decide
/-- Step 4 of section 9.6: the timed-out writeback records LINE 12, ACCESS 7 and CAUSE 2. -/
theorem test_timeout_of_writeback :
    (after .timeout
        (overdue 12 { Line.reset with txOrder := some (txOrder .block 40 64) } (.writeLength .tx 0) (.wordWrite 0x00280040)
          .txWriteback)).faultDesc = { count := 1, cause := some .timeout, access := .txWriteback, line := 12 } := by decide
/-- Step 6 of section 9.6: LINE_FAULT with A = 2 and B = 7, and both directions VACANT. -/
theorem test_timeout_raises_line_fault :
    (after .timeout
        (overdue 12 { Line.reset with txOrder := some (txOrder .block 40 64) } (.writeLength .tx 0) (.wordWrite 0x00280040)
          .txWriteback)).events = [{ kind := .lineFault, line := 12, a := 2, b := 7, c := 0, age := 0 }] := by decide

/-! ### Line units -/

/-- A line that assembles a character in a format. -/
def assembling (setting : Word) : Line :=
  { Line.reset with
    setting := setting
    receiver :=
      { Line.reset.receiver with
        phase := .assemble
        format := { setting := setting, divisor := 48 }
        samples := [false] } }

/-- A looped line at 9600 bit/s, 8 data bits: its receiver, and the clock periods of what the shifter sends. -/
def looped (phase : RxPhase) (clocks : Nat) (samples : List Bool) (shifter : Nat → Shifter) (sent : Nat) : Line :=
  { Line.reset with
    setting := 0x02000035
    shifter := shifter sent
    receiver :=
      { phase := phase
        format := { setting := 0x02000035, divisor := 48 }
        loop := true
        clocks := clocks
        before := true
        samples := samples } }

/-- A character on the loopback route. -/
def loopChar (c : Byte) (sent : Nat) : Shifter :=
  .sending
    { what := .character, char := c, rest := [], clocks := sent, format := { setting := 0x02000035, divisor := 48 }
      loop := true }

/-- A break of one character time on the loopback route. -/
def loopBreak (sent : Nat) : Shifter := .brk 1 { setting := 0x02000035, divisor := 48 } sent true

set_option maxRecDepth 8000 in
/-- Section 3.9.1, step 2: 0x41 with 7 data bits and even parity completes without error flags. -/
theorem test_completion_seven_bits_even :
    ((after (.completion 4 0x41 false true) (State.reset.setLine 4 (assembling 0x000300A5))).line 4).queue =
      [plainData 0x41] := by decide
/-- Section 3.9.1, step 3: a break queues one BREAK entry and the receiver is in RECOVER. -/
theorem test_break_queues_and_recovers :
    ((after (.breakSeen 4) (State.reset.setLine 4 (assembling 0x000300A5))).line 4).queue = [.brk false] ∧
      ((after (.breakSeen 4) (State.reset.setLine 4 (assembling 0x000300A5))).line 4).receiver.phase = .recover := by decide
theorem test_recoverEnd : ((after (.recoverEnd 4) State.reset).line 4).receiver.phase = .search := by decide
theorem test_shifterEmpty_underrun :
    ((after (.shifterEmpty 4)
        (running.setLine 4
          { framedLine with
            txPhase := .payload
            txOrder := some (txOrder .frame 2 4)
            shifter := sends (.frame false) 0x59 [] 0x435 })).line 4).underrunDue =
      true := by decide
theorem test_breakDone :
    ((after (.breakDone 4)
        (running.setLine 4
          { Line.reset with
            txOrder := some (txOrder .brk 0 0)
            shifter := breaking })).line 4).breakDone = true := by decide
set_option maxRecDepth 20000 in
theorem test_fallingEdge :
    ((after (.fallingEdge 4) (after (.recoverEnd 4) State.reset)).line 4).receiver.phase = .start := by decide
set_option maxRecDepth 8000 in
theorem test_startBitSample_false_start :
    ((after (.startBitSample 4 true) (after (.fallingEdge 4) (after (.recoverEnd 4) State.reset))).line 4).receiver.phase =
      .search := by decide
theorem test_idleDue :
    ((after (.idleDue 4) (State.reset.setLine 4 { Line.reset with setting := 0x00030035, idleStarted := true })).line 4).idleDue =
      true := by decide
theorem test_holdDue : ((after (.holdDue 4) (State.reset.setLine 4 { Line.reset with holdReached := true })).line 4).holdDue = true := by
  decide

/-- R61: a new IDLE_GAP that the count already meets sets IDLE_DUE at once; 3 character times of 10 bit periods. -/
theorem test_lineSetting_idle_gap_at_once :
    ((after (.lineSetting 0x00030035)
        (State.reset.setLine 0 { Line.reset with idleStarted := true, idleBits := 30 })).line 0).idleDue = true ∧
      ((after (.lineSetting 0x00030035)
        (State.reset.setLine 0 { Line.reset with idleStarted := true, idleBits := 29 })).line 0).idleDue = false := by decide

/-- The state of a step on an empty queue. -/
def tocked (s : State) : State :=
  match step s with
  | .next t => t
  | .fault _ | .refused _ => s

/-- Table 31: when the MARK that opens a frame has lasted its 7,680 clock periods, the stuffed byte starts. -/
theorem test_clock_starts_next_piece :
    let l := { framedLine with
      txPhase := .opening
      shifter := .sending
        { what := .frame false, char := 0xA6, rest := [.payload 0xA6], clocks := 7679, loop := false
          format := { setting := 0x435, divisor := 48 } } };
    ((tocked (running.setLine 4 l)).line 4).shifter = sends (.frame false) 0xA5 [.plain 0x59] 0x435 ∧
      ((tocked (running.setLine 4 l)).line 4).txPhase = .payload := by decide

/-- R63: the byte that starts after a change of the frame characters is stuffed with the new ones. -/
theorem test_clock_uses_new_frame_characters :
    let l := { framedLine with
      markChar := 0x11
      escapeChar := 0x12
      txPhase := .opening
      shifter := .sending
        { what := .frame false, char := 0xA6, rest := [.payload 0xA6], clocks := 7679, loop := false
          format := { setting := 0x435, divisor := 48 } } };
    ((tocked (running.setLine 4 l)).line 4).shifter = sends (.frame false) 0xA6 [] 0x435 := by decide

set_option maxRecDepth 20000 in
/-- R2, R163: the settle period has no beats, and the end of WAKING begins a beat. -/
theorem test_wakingEnd_restarts_beat :
    (tocked { inPower .waking with beatClocks := 7 }).beatClocks = 7 ∧
      (after .wakingEnd { inPower .waking with beatClocks := 7 }).beatClocks = 0 := by decide

/-- R2: the end of a beat is a beat boundary, told or not: one period after 7,200 the next beat has begun. -/
theorem test_clock_ends_beat :
    let s := tocked { State.reset with beatClocks := 7200, cadence := 5 };
    (s.beatClocks, s.cadenceCount) = (1, 1) := by decide

/-- R160, R161: the period at which the last character has gone out lets STANDBY_ENTRY end in STANDBY, and with the clock
stopped another line's idle-gap timer keeps its count. -/
theorem test_clock_standby_freezes_idle_gap :
    let l := { Line.reset with
      shifter := .sending
        { what := .character, char := 0x55, rest := [], clocks := 7680, loop := false
          format := { setting := 0x35, divisor := 48 } } };
    let k := { Line.reset with setting := 0x00030035, idleStarted := true, idleBits := 5, idleClocks := 9 };
    let s := { (State.reset.setLine 4 l).setLine 5 k with power := .standbyEntry, req := .standby };
    (s.settled, (tocked s).power, (tocked s).line 5) = (true, .standby, k) := by decide

/-- R46, R63: the MARK of an abort pair is the next character started, so it takes the new setting and divisor. -/
theorem test_clock_abort_pair_takes_new_format :
    let l := { framedLine with
      setting := 0x434
      txPhase := .abort
      shifter := .sending
        { what := .abortPair, char := 0xA5, rest := [.plain 0xA6], clocks := 7679, loop := false
          format := { setting := 0x435, divisor := 48 } } };
    ((tocked (running.setLine 4 l)).line 4).shifter =
      .sending
        { what := .abortPair, char := 0xA6, rest := [], clocks := 0, loop := false
          format := { setting := 0x434, divisor := 96 } } := by decide

set_option maxRecDepth 8000 in
/-- R60: a looped receiver completes with the levels it has sampled of the transmitter's output (0x64 is sent as 0, 0,
1, 0, 0, 1, 1, 0), whatever the row carries, at the centre of the stop bit and not before. -/
theorem test_loop_completion :
    let bits := [false, false, false, true, false, false, true, true, false];
    let l := looped .assemble 7296 bits (loopChar 0x64) 7296;
    let k := looped .assemble 7295 bits (loopChar 0x64) 7295;
    ((after (.completion 4 0 true false) (State.reset.setLine 4 l)).line 4).queue = [plainData 0x64] ∧
      (after (.completion 4 0 true false) (State.reset.setLine 4 k)) = State.reset.setLine 4 k := by decide

set_option maxRecDepth 8000 in
/-- R48, R60: a fall within a character of the transmitter's output is a falling edge of a receiver in SEARCH, and the
next period carries it out where no row has told it: 0x55 falls from its data bit 0 to its data bit 1. -/
theorem test_loop_edge_within_character :
    let l := looped .search 0 [] (loopChar 0x55) 1536;
    let k := looped .search 0 [] (loopChar 0x55) 1535;
    ((tocked (running.setLine 4 l)).line 4).receiver.phase = .start ∧
      ((tocked (running.setLine 4 k)).line 4).receiver.phase = .search ∧
      ((after (.fallingEdge 4) (running.setLine 4 k)).line 4).receiver.phase = .search := by decide

/-- R49, R60: at the centre of its data bit 0 a looped receiver samples what the transmitter sends there. -/
theorem test_loop_samples_the_output :
    ((tocked (running.setLine 4 (looped .assemble 1152 [false] (loopChar 0x55) 1152))).line 4).receiver.samples =
        [false, true] ∧
      ((tocked (running.setLine 4 (looped .assemble 1152 [false] loopBreak 1152))).line 4).receiver.samples =
        [false, false] := by decide

/-- R50, R60: in loopback RECOVER ends after one bit period of unbroken mark of the transmitter's output. -/
theorem test_loop_recoverEnd :
    (∀ x ∈ [(767, RxPhase.recover), (768, RxPhase.search)],
      ((after (.recoverEnd 4) (running.setLine 4 (looped .recover x.1 [] (fun _ => .empty) 0))).line 4).receiver.phase =
        x.2) ∧
      ((tocked (running.setLine 4 (looped .recover 480 [] loopBreak 480))).line 4).receiver.clocks = 1 := by decide

/-- R56: a break that no row ends returns to mark after its length, and BREAK_DONE is set. -/
theorem test_clock_ends_break :
    let l := { looped .assemble 7296 [false] loopBreak 7680 with txOrder := some (txOrder .brk 0 0) };
    ((tocked (running.setLine 4 l)).line 4).breakDone = true := by decide

/-- R55, R60: on the loopback route the shifter ends when the last stop bit does. -/
theorem test_loop_shifterEmpty :
    (∀ x ∈ [(7679, false), (7680, true)],
      ((after (.shifterEmpty 4) (running.setLine 4 (looped .search 0 [] (loopChar 0x55) x.1))).line 4).drained =
        x.2) := by decide

/-- R60: with LOOP a falling edge of RXD has no effect while the shifter is empty. -/
theorem test_fallingEdge_looped_idle :
    let l := { assembling 0x02000035 with receiver := { (assembling 0x02000035).receiver with phase := .search } };
    ((after (.fallingEdge 4) (running.setLine 4 l)).line 4).receiver.phase = .search := by decide

/-- The transmit trace of Table 33: the characters of the frame up to the CRC. -/
theorem test_frame_characters :
    (frameCharacters 0xA6 0xA5 [0x41, 0xA6, 0x42, 0xA5]).take 7 = [0xA6, 0x41, 0xA5, 0x59, 0x42, 0xA5, 0x5A] := by decide
/-- The receive trace of Table 34: after 0x42 the tail pair is 0xA6, 0x42 and DATA 0x41 is queued. -/
theorem test_receive_trace :
    (([0xA6, 0x41, 0xA5, 0x59, 0x42] : List Byte).foldl (fun l c => l.receiveFramed (.char c false false)) framedLine).queue =
        [plainData 0x41] ∧
      (([0xA6, 0x41, 0xA5, 0x59, 0x42] : List Byte).foldl (fun l c => l.receiveFramed (.char c false false)) framedLine).tail =
        [0xA6, 0x42] := by decide

/-! ### The timebase and the power manager -/

/-- A line that waits with ATTN set. -/
def attended : State := running.setLine 3 { Line.reset with attn := true }

/-- Section 3.9.2: the second equal sample is accepted and counted. -/
theorem test_beat_accepts_sense :
    ((after (.beatBoundary 0)
        (State.reset.setLine 11 { Line.reset with sensePrev := .sample false, sense := true })).line 11).changeCount = 1 := by
  decide
theorem test_beat_counts_cadence : (after (.beatBoundary 0) { State.reset with cadence := 5 }).cadenceCount = 1 := by decide
theorem test_resweep_spares_faulted :
    ((after .resweepExpiry
        { State.reset.setLine 2 { Line.reset with faulted := true } with resweep := 2, resweepCount := 2 }).line 2).attn = false ∧
      ((after .resweepExpiry { State.reset with resweep := 2, resweepCount := 2 }).line 3).attn = true := by decide
/-- Step 3 of section 8.7: TICK is already set, so MISSED becomes 3. -/
theorem test_tick_missed :
    (after .tick { State.reset with cadence := 2, cadenceCount := 2, tick := true, missed := 2 }).missed = 3 := by decide
theorem test_guardExpiry :
    (after .guardExpiry { running with livenessEn := true, guardRunning := true, guardCount := 0 }).seq = .quiesced ∧
      (after .guardExpiry { running with livenessEn := true, guardRunning := true, guardCount := 0 }).alertLiveness = true := by
  decide
theorem test_automaticDoze : (after .automaticDoze { running with autoDoze := true, idleBeats := 2 }).power = .doze := by decide
/-- R32: a resweep that falls at the instant a visit begins is applied after its snapshot. -/
theorem test_visit_resweep_after_snapshot :
    let s := { running.setLine 3 { Line.reset with rxCancel := true } with resweep := 1, resweepCount := 1 };
    (after .visit s).visit.map (·.attn) = some false ∧ ((after .visit s).line 3).attn = false ∧
      ((after .resweepExpiry (after .visit s)).line 3).attn = true := by decide
/-- R36: a SENSE level accepted at the instant of the STATUS step is taken after it: the event reports the one change
before it, and one change is pending again. -/
theorem test_visit_status_at_sense_change :
    let l := { Line.reset with statusPending := true, changeCount := 1, sense := true, sensePrev := .sample false };
    let s := after .visit (after (.beatBoundary 0) (running.setLine 11 l));
    s.events = [{ kind := .status, line := 11, a := 3, b := 1, c := 0, age := 0 }] ∧
      ((s.line 11).changeCount, (s.line 11).statusPending, (s.line 11).sense) = (1, true, false) := by decide
/-- R143: data returned at the instant of the second beat boundary is the answer, and no timeout comes. -/
theorem test_byteRead_at_second_boundary :
    let l := { Line.reset with txOrder := some (txOrder .block 1 9), shifter := busy };
    let s := after (.byteRead 7 (.ok 0x42)) (overdue 2 l .loadByte .byteRead .txBuffer);
    ((s.line 2).holding.map (·.byte), s.faultDesc.count) = (some 0x42, 0) := by decide
/-- R143, R2: a transaction issued at the instant of a boundary has met no boundary yet. -/
theorem test_transaction_issued_after_boundary :
    (after .visit (after (.beatBoundary 0) attended)).mem.map (·.beats) = some 0 := by decide
/-- R124: at the boundary at which SENSE ends hold state the underrun stands, and the byte read is discarded. -/
theorem test_underrun_before_load_at_hold_end :
    let l := { framedLine with
      setting := 0x00001435
      sense := false
      sensePrev := .sample true
      txPhase := .payload
      txOrder := some (txOrder .frame 2 4) };
    let s := after (.byteRead 7 (.ok 0x42))
      (after (.beatBoundary 0xFFFF) (visiting 2 l false .loadByte .byteRead .txBuffer));
    ((s.line 2).underrunDue, (s.line 2).holding, (s.line 2).txPhase) = (true, none, .abort) := by decide
/-- R159: a doze that falls due at the boundary at which SENSE is accepted ends at once. -/
theorem test_automaticDoze_at_sense_change :
    (after .automaticDoze { running with autoDoze := true, idleBeats := 2, dozeBarred := true }).power = .active := by decide
theorem test_standby : (after .standby { inPower .standbyEntry with req := .standby }).power = .standby := by decide
theorem test_wakeEdge :
    (after (.wakeEdge 4 0) { inPower .standby with wakeEn := 4 }).power = .waking ∧
      (after (.wakeEdge 4 0) { inPower .standby with wakeEn := 8 }).power = .standby := by decide
set_option maxRecDepth 8000 in
theorem test_wakingEnd_reports :
    (after .wakingEnd { inPower .waking with wakeStart := 4, wakeSense := 6 }).events =
      [{ kind := .wake, line := 1, a := 2, b := 0, c := 0, age := 0 },
        { kind := .wake, line := 2, a := 3, b := 0, c := 0, age := 0 }] := by decide

/-! ### Witnesses: states and operands that meet the hypotheses of each statement, clause by clause -/

/-- A line whose transmit order needs service. -/
def transmitting (o : TxOrder) (l : Line) : State := running.setLine 15 { l with txOrder := some o }

theorem witness_StepRunsTheFrontCommand :
    (State.reset.pending = [] ∧ State.reset.settled = true ∧ State.reset.windowShut = false ∧
        State.reset.beatClocks ≠ 7200 ∧
        ∀ n : LineNo, (State.reset.line n).sentOut = false ∧ (State.reset.line n).instantDue State.reset = false ∧
          (State.reset.line n).idleEnded (State.reset.formatOf (State.reset.line n)) = false) ∧
      (let s := { State.reset with beatClocks := 7200 };
        s.settled = true ∧ s.windowShut = false ∧ s.beatClocks = 7200) ∧
      ((inPower .waking).settled = true ∧ (inPower .waking).power = .waking ∧ (inPower .waking).settleClocks ≠ 2048) ∧
      (let s := { inPower .waking with settleClocks := 2048 };
        s.settled = true ∧ s.power = .waking ∧ s.settleClocks = 2048) ∧
      ((inPower .standby).settled = true ∧ (inPower .standby).power = .standby) := by decide

theorem witness_DueEventsComeFirst :
    Instr.isExpiry .start = false ∧ State.reset.finishGuard.seq ≠ .running ∧ (inPower .doze).finishGuard.power ≠ .active ∧
      (visiting 9 Line.reset false .loadByte .byteRead .txBuffer).finishGuard.visit.isSome = true ∧
      (∀ n : LineNo, (running.finishGuard.line n).neededService = false) ∧
      (let s := overdue 9 Line.reset .loadByte .byteRead .txBuffer;
        s.visit.isSome = true ∧ s.mem.map (fun t => (t.tag, t.beats)) = some (7, 2)) ∧
      (visiting 9 Line.reset false .loadByte .byteRead .txBuffer).mem.map (·.beats) = some 0 := by decide

theorem witness_ResetsReturnEveryBlock :
    (State.reset.settled = true ∧ State.reset.windowShut = false) ∧
      ((inPower .standby).settled = true ∧ (inPower .standby).windowShut = true) ∧
      ((inPower .waking).settled = true ∧ (inPower .waking).windowShut = true) := by decide

theorem witness_CommandsFollowTable15 :
    State.reset.open = true ∧ table15 .start State.reset.seq false = some .running ∧
      table15 .pause State.reset.seq false = none ∧ (inPower .standbyEntry).settled = false ∧
      ({ State.reset.setLine 0 { Line.reset with shifter := busy } with power := .standbyEntry }).open = true := by decide

theorem witness_CancelsAndDoorbellsMarkTheirLines :
    State.reset.open = true ∧ lineOf 0x10F = 15 ∧ (0x10F : Word).getLsbD 8 = true ∧ (0x00F : Word).getLsbD 8 = false := by
  decide

theorem witness_ResetLineActsAtOnceOrIsHeld :
    ((visiting 9 Line.reset false .loadByte .byteRead .txBuffer).open = true ∧
        (visiting 9 Line.reset false .loadByte .byteRead .txBuffer).visit = some (visitTo 9 false .loadByte) ∧
        (visitTo 9 false .loadByte).line = lineOf 0x309) ∧
      (State.reset.open = true ∧ State.reset.visit = none) ∧
      ({ State.reset.setLine 2 { Line.reset with txOrder := some (txOrder .block 0 4), shifter := busy } with
          req := .doze }).open = true := by decide

theorem witness_ActiveRequestActsByPowerState :
    ((inPower .doze).settled = true ∧ (inPower .doze).windowShut = false) ∧
      ((inPower .standby).settled = true ∧ (inPower .standby).windowShut = true) := by decide

theorem witness_DozeRequestIsEnteredOrWaits :
    (running.settled = true ∧ running.windowShut = false ∧ running.visit = none ∧ running.anyTxActive = false) ∧
      ((inPower .waking).settled = true ∧ (inPower .waking).windowShut = true) := by decide

theorem witness_StandbyRequestNeedsAStoppedSequencer :
    (State.reset.settled = true ∧ State.reset.power = .active ∧ State.reset.seq = .stopped) ∧
      (running.settled = true ∧ running.power = .active ∧ running.seq ≠ .stopped ∧ running.seq ≠ .paused) ∧
      (let s := { State.reset.setLine 0 { Line.reset with shifter := busy } with power := .standbyEntry };
        s.settled = true ∧ s.power = .standbyEntry) ∧
      ((inPower .standby).settled = true ∧ (inPower .standby).windowShut = true) ∧
      ((inPower .waking).settled = true ∧ (inPower .waking).windowShut = true) := by decide

theorem witness_ControlStoresEnablesAndArms :
    State.reset.open = true ∧ ((inPower .standby).settled = true ∧ (inPower .standby).windowShut = true) ∧
      Instr.tick.leavesControl = true := by decide

theorem witness_ControlStoresEnablesAndArms_frame : exec .tick State.reset = .next State.reset := rfl

/-- The part after the guard has expired. -/
def quiescedPart : State := { State.reset with seq := .quiesced, alertLiveness := true, livenessEn := true }

theorem witness_KeepaliveRefreshesByItsKeyPair :
    State.reset.open = true ∧ ((inPower .standby).settled = true ∧ (inPower .standby).windowShut = true) ∧
      (1 : Lanes) ≠ wholeWord ∧ quiescedPart.open = true ∧ quiescedPart.timersOk ∧ quiescedPart.quiet = true := by decide

theorem witness_KeepaliveRefreshesByItsKeyPair_control : quiescedPart.controlOk :=
  ⟨by decide, by decide, by decide, by decide, by decide, by decide, by decide, by decide, by decide⟩

theorem witness_LivenessPeriodIsLockedWhileArmed :
    State.reset.open = true ∧ ({ State.reset with livenessEn := true }).open = true ∧
      (0x100 : Word).getLsbD 8 = true ∧ (0xFF : Word).getLsbD 8 = false ∧ Instr.standby.leavesControl = true := by decide

theorem witness_LivenessPeriodIsLockedWhileArmed_frame : exec .standby State.reset = .next State.reset := rfl

theorem witness_StoredRegistersTakeTheirFields :
    State.reset.open = true ∧ State.reset.seq = .stopped ∧ running.open = true ∧ running.seq ≠ .stopped := by decide

theorem witness_ClassDataAccessesAdvanceTheIndex :
    ({ State.reset with classIndex := 255 }).open = true ∧ (7 : Lanes) ≠ wholeWord ∧
      ((inPower .standby).settled = true ∧ (inPower .standby).windowShut = true) := by decide

theorem witness_ShutWindowRefusesWrites :
    (Instr.doorbell 3).gatedWrite = true ∧ (inPower .waking).settled = true ∧ (inPower .waking).windowShut = true := by
  decide

theorem witness_WriteDecodingInvertsEncoding :
    ((Instr.reqStandby 0x12).wellFormed = true ∧ encodeWrite (.reqStandby 0x12) = some (0x3C, wholeWord, 0x12)) ∧
      ((Instr.registerWrite 0x5C wholeWord 3).wellFormed = true ∧
        encodeWrite (.registerWrite 0x5C wholeWord 3) = some (0x5C, wholeWord, 3)) := by decide

theorem witness_RegisterWritesAreStoredOrRefused :
    State.reset.settled = true ∧ regAt 0x70 = none ∧ ((3 : Lanes) ≠ wholeWord ∧ (regAt 0x6C).isSome = true) ∧
      (regAt 0x6C).map regAccess = some .readOnly ∧ State.reset.windowShut = false ∧ regAt 0x40 = some .classIndex ∧
      regAt 0x5C = some .lineSelect ∧ (regAt 0x0C = some .command ∧ commandRow 0xA5A5 = none) ∧
      (regAt 0x18 = some .lineCmd ∧ (0x00F : Word).extractLsb' 8 2 = 0#2) ∧
      (regAt 0x3C = some .power ∧ (0x13 : Word).extractLsb' 0 2 = 3#2) ∧
      ((inPower .standby).settled = true ∧ (inPower .standby).windowShut = true) ∧
      ((inPower .waking).settled = true ∧ (inPower .waking).windowShut = true) := by decide

theorem witness_LineSettingIsCheckedThenApplied :
    (State.reset.open = true ∧ State.reset.seq = .stopped ∧ settingValid 0x435 = true ∧
        setFramed 0x435 ≠ (State.reset.line 0).framed) ∧
      (let s := State.reset.setLine 0 { Line.reset with shifter := busy };
        s.open = true ∧ s.seq = .stopped ∧ (s.line 0).shifter ≠ .empty) ∧
      (let s := State.reset.setLine 0 { Line.reset with setting := 0x1035, abortPending := true };
        s.open = true ∧ s.seq = .stopped ∧ (s.line 0).shifter = .empty ∧ (s.line 0).inHold = true ∧
          setAutoHold 0x35 = false ∧ (s.line 0).abortPending = true) ∧
      (let s := State.reset.setLine 0 { framedLine with setting := 0x1435, txPhase := .payload };
        s.open = true ∧ s.seq = .stopped ∧ (s.line 0).shifter = .empty ∧ setAutoHold 0x435 = false ∧
          setFramed 0x435 = (s.line 0).framed ∧ (s.line 0).payloadHeld = false) ∧
      (let s := State.reset.setLine 0 { Line.reset with setting := 0x1035, holding := some ⟨7, false, false, .echo⟩ };
        s.open = true ∧ s.seq = .stopped ∧ (s.line 0).shifter = .empty ∧ (s.line 0).abortPending = false ∧
          (s.line 0).txPhase ≠ .payload ∧ setFramed 0x35 = false) := by decide

theorem witness_LineSettingTouchesTheSelectedLineOnly :
    State.reset.open = true ∧ State.reset.seq = .stopped ∧
      (settingValid 0x25 = true ∧ setFramed 0x25 = (State.reset.line 0).framed) ∧ settingValid 0x425 = false ∧
      (setFramed 0x435 ≠ ((State.reset.setLine 0 { Line.reset with shifter := busy }).line 0).framed ∧
        ((State.reset.setLine 0 { Line.reset with shifter := busy }).line 0).drained = false) := by decide

theorem witness_LineFrameIsCheckedThenApplied : State.reset.open = true := by decide

theorem witness_ConsoleWriteLoadsOrIsLost :
    (running.open = true ∧ running.consoleActive = false) ∧
      ((State.reset.setLine 0 { Line.reset with holding := some ⟨1, false, false, .console⟩, shifter := busy }).open = true ∧
        (State.reset.setLine 0
          { Line.reset with holding := some ⟨1, false, false, .console⟩, shifter := busy }).consoleActive = true) ∧
      ((State.reset.setLine 0 { Line.reset with shifter := busy }).open = true ∧
        (State.reset.setLine 0 { Line.reset with shifter := busy }).consoleActive = true) ∧
      (State.reset.consoleActive = true ∧ (State.reset.line 0).drained = true ∧ (State.reset.line 0).inHold = false ∧
        (State.reset.line 0).txPhase ≠ .payload) := by decide

theorem witness_ConsoleReadTakesTheHead :
    (State.reset.setLine 0 { Line.reset with queue := [.brk true] }).settled = true ∧
      (State.reset.setLine 0 { Line.reset with queue := [.brk true] }).consoleActive = true ∧ running.settled = true ∧
      running.consoleActive = false := by decide

theorem witness_ConStatusReturnsAndClearsTxLost :
    (State.reset.settled = true ∧ State.reset.consoleActive = true) ∧
      (running.settled = true ∧ running.consoleActive = false) := by decide

theorem witness_EventTakeReturnsAndRemovesTheHead :
    State.reset.settled = true ∧ State.reset.events = [] ∧ overflowed.settled = true ∧ overflowed.overflow = true ∧
      ({ overflowed with overflow := false }).settled = true := by decide

theorem witness_EventLevelReturnsAndClearsMissed : overflowed.settled = true ∧ overflowed.portOk := by decide

theorem witness_StatusReturnsAndClearsTheRefusalFlags : State.reset.settled = true := by decide

theorem witness_EventConditionHoldsByCountAgeOrUrgency :
    State.reset.events = [] ∧ overflowed.events.length = 32 ∧ State.reset.threshold = 0 ∧ State.reset.ageLimit = 0 := by
  decide

theorem witness_ReadsOutsideTable46ChangeNothing :
    State.reset.open = true ∧ State.reset.livenessEn = false ∧ State.reset.timersOk ∧ Reg.eventPeek ≠ .eventTake ∧
      Reg.eventPeek ≠ .status := by
  decide

theorem witness_ReadsOutsideTable46ChangeNothing_units : State.reset.unitsOk := by
  intro n
  rw [State.line_reset]
  decide

/-- A state with a command in front whose step changes what the invariants speak of. -/
def ticking : State := { overflowed with cadence := 2, cadenceCount := 2, pending := [.tick] }

theorem witness_StepsKeepTheEventPort : ticking.portOk ∧ ∃ t, step ticking = .next t := ⟨by decide, _, rfl⟩

theorem witness_StepsKeepTheLineUnits : ticking.unitsOk ∧ ∃ t, step ticking = .next t := by
  refine ⟨fun n => ?_, _, rfl⟩
  have h : ticking.line n = Line.reset := State.line_reset n
  rw [h]
  decide

theorem witness_StepsKeepTheTimers : ticking.timersOk ∧ ∃ t, step ticking = .next t := ⟨by decide, _, rfl⟩

theorem witness_StepsKeepControlConsistent : ticking.controlOk ∧ ∃ t, step ticking = .next t :=
  ⟨⟨by decide, by decide, by decide, by decide, by decide, by decide, by decide, by decide, by decide⟩, _, rfl⟩

theorem witness_VisitFollowsTheRoundRobin :
    (attended.settled = true ∧ attended.picks 3) ∧
      (running.settled = true ∧ ∀ n : LineNo, (running.line n).needsService = false) ∧
      (State.reset.settled = true ∧ State.reset.seq ≠ .running) ∧
      (let s := { attended with resweep := 1, resweepCount := 1 };
        s.holdsDue = false ∧ s.tickDue = false ∧ s.guardDue = false ∧ s.resweepDue = true ∧ s.picksNow 3) := by
  unfold State.picks State.picksNow
  decide

theorem witness_VisitReportsStatusAndFetches :
    (attended.holdsDue = false ∧ attended.tickDue = false ∧ attended.guardDue = false ∧ attended.picksNow 3 ∧
        (attended.line 3).attn = true ∧ (attended.line 3).rxOrder = none ∧ (attended.line 3).rxCancel = false ∧
        (attended.line 3).countBefore = none ∧ (attended.line 3).statusPending = false) ∧
      (∀ l ∈ [{ Line.reset with attn := true, statusPending := true, changeCount := 255 },
          { Line.reset with rxCancel := true, statusPending := true, changeCount := 1, countBefore := some 0 },
          { Line.reset with txCancel := true, statusPending := true, changeCount := 255, countBefore := some 255 }],
        let s := running.setLine 15 l;
        s.holdsDue = false ∧ s.tickDue = false ∧ s.guardDue = false ∧ s.picksNow 15 ∧ (s.line 15).unitOk ∧
          (s.line 15).rxOrder = none ∧ (s.line 15).txOrder = none) := by
  unfold State.picksNow
  decide

/-- A line with a receive order and a queue, ready to be visited. -/
def serving (o : RxOrder) (q : List Entry) (l : Line) : State :=
  running.setLine 15 { l with rxOrder := some o, queue := q, pacing := pacingAfter true q.length }

theorem witness_ReceiveOrdersServeTheHeadEntry :
    (∀ s ∈ [serving (rxOrder .single 0 0) [.brk false] Line.reset,
        serving (rxOrder .block 0xFFFF 0xFFFF) [.data 1 false false true 1] Line.reset,
        serving (rxOrder .blockEcho 0 1) [.data 1 true true false 0] Line.reset,
        serving (rxOrder .blockEcho 0 1) [.brk true] Line.reset,
        serving (rxOrder .frame 3 3) [.frameEnd .good] framedLine,
        serving (rxOrder .frame 2 3) [plainData 1] framedLine,
        serving (rxOrder .frame 3 3) [plainData 1] framedLine,
        serving (rxOrder .frame 3 3) [plainData 1, .frameEnd .good] framedLine,
        serving (rxOrder .frame 0 3) [.frameEnd .good] { framedLine with remnant := true },
        serving (rxOrder .block 1 3) [] { Line.reset with idleDue := true },
        serving (rxOrder .block 0 3) [] { Line.reset with idleDue := true }],
      s.settled = true ∧ s.picks 15 ∧ (s.line 15).statusPending = false ∧ Line.atRest s (s.line 15) ∧
        (s.line 15).rxCancel = false ∧ (s.line 15).txOrder = none ∧ (s.line 15).txCancel = false ∧
        (s.line 15).attn = false ∧ s.req ≠ .doze) ∧
    (let s := serving (rxOrder .frame 1 3) [] { framedLine with rxCancel := true };
      s.settled = true ∧ s.picks 15 ∧ Line.atRest s (s.line 15) ∧ (s.line 15).rxCancel = true) := by
  unfold State.picks Line.atRest
  decide

set_option maxRecDepth 8000 in
theorem witness_TransmitOrdersDoTheirStep :
    (∀ s ∈ [transmitting (txOrder .block 1 4)
          { Line.reset with
            txCancel := true
            ownByte := true
            holding := some ⟨7, false, false, .order⟩
            shifter := busy },
        transmitting (txOrder .block 1 4)
          { Line.reset with holdDue := true, ownByte := true, holding := some ⟨7, false, false, .order⟩, shifter := busy },
        transmitting (txOrder .frame 2 4)
          { framedLine with txCancel := true, txPhase := .payload, shifter := sends (.frame false) 1 [] 0x435 },
        transmitting (txOrder .block 4 4) { Line.reset with holdDue := true },
        transmitting (txOrder .frame 2 4) { framedLine with underrunDue := true },
        transmitting { txOrder .brk 0 0 with breakStarted := true } { Line.reset with breakDone := true },
        transmitting (txOrder .block 1 4) { Line.reset with breakDone := true },
        transmitting (txOrder .brk 0 0) { Line.reset with breakDone := true, drainWait := true, shifter := busy },
        transmitting (txOrder .single 0 0) { Line.reset with shifter := busy },
        transmitting (txOrder .single 0 0) Line.reset,
        transmitting (txOrder .block 0xFFFE 0xFFFF) Line.reset,
        transmitting (txOrder .frame 0 4) framedLine,
        transmitting (txOrder .brk 0 0) { Line.reset with drainWait := true },
        transmitting (txOrder .setting 0 0) { Line.reset with drainWait := true },
        transmitting (txOrder .setting 0 0) { framedLine with drainWait := true },
        transmitting (txOrder .setting 0 0)
          { framedLine with drainWait := true, rxOrder := some (rxOrder .frame 0 3) }],
      s.settled = true ∧ s.picks 15 ∧ s.req ≠ .doze ∧ (s.line 15).attn = false ∧ (s.line 15).statusPending = false ∧
        (s.line 15).rxCancel = false ∧ (s.line 15).queue = [] ∧ (s.line 15).idleDue = false ∧
        Line.atRest s (s.line 15)) ∧
    setFramed (txOrder .setting 0 0).settingWord = Line.reset.framed ∧
    setFramed (txOrder .setting 0 0).settingWord ≠ framedLine.framed := by
  unfold State.picks Line.atRest
  decide

theorem witness_FetchesRejectInvalidOrders :
    (∀ p ∈ [VisitPoint.fetchOrder .rx false, .fetchOrder .tx false, .fetchLength .rx 0xA0000000 0,
        .fetchSetting 0xB0000000, .fetchFrame 0xB0000000 0x435, .fetchOrder .rx true, .fetchOrder .tx true],
      let s := visiting 6 Line.reset true p .wordRead .rxOrderFetch;
      s.settled = true ∧ Line.atRest s (s.line 6) ∧ s.plainVisit (visitTo 6 true p) ∧ (s.line 6).txOrder = none) ∧
    ((overdue 6 Line.reset (.fetchOrder .tx false) .wordRead .txOrderFetch).mem.all
        (overdue 6 Line.reset (.fetchOrder .tx false) .wordRead .txOrderFetch).awaits = true ∧
      (visiting 6 Line.reset true (.fetchOrder .tx false) .wordRead .txOrderFetch).mem.all
        (visiting 6 Line.reset true (.fetchOrder .tx false) .wordRead .txOrderFetch).awaits = true) ∧
    ((0xD0000000 : Word).extractLsb' 28 3).toNat = 5 ∧ (0xD0000000 : Word).getLsbD 31 = true ∧
    ((0xD0000000 : Word).extractLsb' 8 8 = 0#8 ∧ (0xD0000000 : Word).extractLsb' 26 2 = 0#2) ∧
    (0xFFFF0000 : Word).extractLsb' 0 16 = 0#16 ∧ settingValid 0x04000035 = false ∧
    (0x00010000 : Word).extractLsb' 16 16 ≠ 0#16 ∧
    (setFramed 0x435 = true ∧ (0x1111 : Word).extractLsb' 0 8 = (0x1111 : Word).extractLsb' 8 8) ∧
    (0x7FFFFFFF : Word).getLsbD 31 = false := by
  unfold State.plainVisit Line.atRest
  decide

theorem witness_FetchesReadOnAndAccept :
    (∀ p ∈ [VisitPoint.fetchOrder .rx false, .fetchOrder .tx false, .fetchAddress .tx 0xA0000000,
        .fetchLength .rx 0xA0000000 0, .fetchLength .rx 0xB0000000 0, .fetchLength .rx 0xC0000000 0,
        .fetchLength .tx 0xC0000000 0, .fetchSetting 0xB0000000, .fetchFrame 0xB0000000 0x435],
      let s := visiting 6 framedLine true p .wordRead .rxOrderFetch;
      s.settled = true ∧ s.plainVisit (visitTo 6 true p) ∧ Line.atRest s (s.line 6) ∧ (s.line 6).txOrder = none ∧
        (s.line 6).queue = [] ∧ (s.line 6).idleDue = false ∧ (s.line 6).holding = none ∧
        (s.line 6).underrunDue = false ∧ (s.line 6).holdDue = false ∧ (s.line 6).breakDone = false) ∧
    (∀ l ∈ [Line.reset, { Line.reset with shifter := busy },
        { Line.reset with rxOrder := some (rxOrder .block 0 4) }],
      let p := VisitPoint.fetchFrame 0xB0000000 0x435;
      let s := visiting 6 l true p .wordRead .rxOrderFetch;
      s.settled = true ∧ s.plainVisit (visitTo 6 true p) ∧ Line.atRest s (s.line 6) ∧ (s.line 6).txOrder = none ∧
        (s.line 6).queue = [] ∧ (s.line 6).idleDue = false ∧ (s.line 6).holding = none ∧
        (s.line 6).underrunDue = false ∧ (s.line 6).holdDue = false ∧ (s.line 6).breakDone = false) ∧
    (Line.reset.drained = true ∧ ({ Line.reset with shifter := busy } : Line).drained = false) ∧
    (((0x90000000 : Word).getLsbD 31 = true ∧ (0x90000000 : Word).extractLsb' 26 2 = 0#2) ∧
      ((0xA0000000 : Word).getLsbD 31 = true ∧ (0xA0000000 : Word).extractLsb' 26 2 = 0#2) ∧
      ((0xB0000000 : Word).getLsbD 31 = true ∧ (0xB0000000 : Word).extractLsb' 26 2 = 0#2) ∧
      ((0xC0000000 : Word).getLsbD 31 = true ∧ (0xC0000000 : Word).extractLsb' 26 2 = 0#2) ∧
      ((0xD000FF00 : Word).getLsbD 31 = true ∧ (0xD000FF00 : Word).extractLsb' 26 2 = 0#2)) ∧
    ((0xA0000000 : Word).extractLsb' 28 3 = 2#3 ∧ (0x90000000 : Word).extractLsb' 28 3 = 1#3 ∧
      (0xB0000000 : Word).extractLsb' 28 3 = 3#3 ∧ (0xC0000000 : Word).extractLsb' 28 3 = 4#3 ∧
      (0xD000FF00 : Word).extractLsb' 28 3 = 5#3 ∧ (0xD000FF00 : Word).extractLsb' 8 8 ≠ 0#8) ∧
    settingValid 0x435 = true ∧ setFramed 0x435 ≠ Line.reset.framed ∧ setFramed 0x35 = Line.reset.framed ∧
    ((0x1211 : Word).extractLsb' 16 16 = 0#16 ∧ (0x1211 : Word).extractLsb' 0 8 ≠ (0x1211 : Word).extractLsb' 8 8) ∧
    (0x0000FFFF : Word).extractLsb' 0 16 ≠ 0#16 := by
  unfold State.plainVisit Line.atRest
  decide

theorem witness_ClosesWriteBackAndVacate :
    (let s := visiting 6 Line.reset false (.writeLength .rx 0x20330000) (.wordWrite 0) .rxWriteback;
      s.mem.all s.awaits = true ∧ s.visit = some (visitTo 6 false (.writeLength .rx 0x20330000))) ∧
    (∀ x ∈ [(Dir.rx, { Line.reset with rxOrder := some (rxOrder .block 1 1) }),
        (.tx, { Line.reset with txOrder := some (txOrder .block 1 1), shifter := busy })],
      ∀ held ∈ [false, true], ∀ q ∈ [SeqState.running, .pausing, .stopping, .quiescing],
      ∀ r ∈ [PowerReq.active, .doze],
      let s := { visiting 6 x.2 false (.writeOrder x.1 0x22330000) (.wordWrite 0x22330000) .rxWriteback with
        visit := some { visitTo 6 false (.writeOrder x.1 0x22330000) with resetHeld := held }
        seq := q
        req := r };
      s.mem.all s.awaits = true ∧ s.power = .active ∧ s.seq.mayVisit = true ∧ s.dozeBarred = false ∧
        Line.atRest s (s.line 6) ∧ (x.1 = .rx → (s.line 6).txOrder = none)) := by
  unfold Line.atRest
  decide

theorem witness_StoredCharactersCountAndCloseBlocks :
    (∀ l ∈ [{ Line.reset with
            rxOrder := some { rxOrder .block 18 20 with flags := 1 }
            queue := [.data 1 false false true 1, plainData 2] },
          { Line.reset with
            rxOrder := some { rxOrder .block 18 20 with flags := 1 }
            queue := [.data 1 false false false 1, plainData 2] },
          { Line.reset with rxOrder := some (rxOrder .block 19 20), queue := [plainData 1, plainData 2] },
          { Line.reset with rxOrder := some (rxOrder .block 18 20), queue := [plainData 1, plainData 2] },
          { Line.reset with rxOrder := some (rxOrder .block 0 20), queue := [plainData 1], idleDue := true },
          { Line.reset with
            rxOrder := some { rxOrder .blockEcho 18 20 with flags := 1 }
            queue := [.data 1 false false false 1, plainData 2] },
          { Line.reset with
            rxOrder := some (rxOrder .blockEcho 18 20)
            queue := [.data 1 false false true 0]
            shifter := busy
            holding := some ⟨7, false, false, .console⟩ },
          { Line.reset with rxOrder := some (rxOrder .blockEcho 19 20), queue := [plainData 1], shifter := busy },
          { Line.reset with rxOrder := some (rxOrder .blockEcho 18 20), queue := [plainData 1, plainData 2] },
          { framedLine with rxOrder := some (rxOrder .frame 3 20), queue := [plainData 1] }],
      ∀ quota ∈ [0, 3],
      let s := visiting 3 l false (.storeByte quota) (.byteWrite 1) .rxBuffer;
      s.settled = true ∧ Line.atRest s (s.line 3) ∧ s.plainVisit (visitTo 3 false (.storeByte quota)) ∧
        (s.line 3).txOrder = none ∧ (s.line 3).inHold = false) ∧
    (18 : BitVec 16) + 1 ≠ 20 ∧ (19 : BitVec 16) + 1 = 20 := by
  unfold State.plainVisit Line.atRest
  decide

set_option maxRecDepth 8000 in
theorem witness_LoadedBytesCountAndCloseOrders :
    (let s := visiting 2 { framedLine with txOrder := some (txOrder .frame 2 4), underrunDue := true } false .loadByte
        .byteRead .txBuffer;
      s.settled = true ∧ s.plainVisit (visitTo 2 false .loadByte) ∧ Line.atRest s (s.line 2)) ∧
    (let s := visiting 2 { Line.reset with txOrder := some { txOrder .block 8 9 with flags := 1 }, shifter := busy } false
        .loadByte .byteRead .txBuffer;
      s.settled = true ∧ s.plainVisit (visitTo 2 false .loadByte) ∧ Line.atRest s (s.line 2) ∧
        (8 : BitVec 16) + 1 = 9 ∧
        (classLookup s.classTable false (lineValue { setting := 0x35, divisor := 1 } 0x0D)).getLsbD 0 = true ∧
        (classLookup s.classTable false (lineValue { setting := 0x35, divisor := 1 } 0x41)).getLsbD 0 = false) ∧
    (∀ l ∈ [{ Line.reset with txOrder := some (txOrder .block 0 1) },
        { framedLine with txOrder := some (txOrder .frame 0 1) },
        { framedLine with txOrder := some (txOrder .frame 0 0xFFFF) }],
      let s := visiting 2 l false .loadByte .byteRead .txBuffer;
      s.mem.all s.awaits = true ∧ s.plainVisit (visitTo 2 false .loadByte) ∧ Line.atRest s (s.line 2) ∧
        (s.line 2).shifter = .empty ∧ (s.line 2).inHold = false ∧ (s.line 2).holding = none) := by
  unfold State.plainVisit Line.atRest
  decide

theorem witness_MemoryFaultsFailTheLineOrCloseTheOrder :
    (∀ x ∈ [(VisitPoint.fetchOrder .rx false, MemRequest.wordRead), (.writeOrder .tx 0, .wordWrite 0),
        (.storeByte 2, .byteWrite 1), (.loadByte, .byteRead)],
      ∀ l ∈ [{ Line.reset with
            rxOrder := some (rxOrder .block 7 64)
            txOrder := some (txOrder .block 40 64)
            queue := [plainData 1]
            shifter := busy },
          { framedLine with
            rxOrder := some (rxOrder .frame 7 64)
            txOrder := some (txOrder .frame 40 64)
            queue := [plainData 1]
            txPhase := .payload
            shifter := sends (.frame false) 1 [] 0x435 }],
      (let s := visiting 12 l false x.1 x.2 .txWriteback;
        s.settled = true ∧ s.plainVisit (visitTo 12 false x.1) ∧ Line.atRest s (s.line 12) ∧
          (s.line 12).shifter ≠ .empty) ∧
      (let s := overdue 12 l x.1 x.2 .txWriteback;
        s.holdsDue = false ∧ s.plainVisit (visitTo 12 false x.1) ∧ Line.atRest s (s.line 12))) ∧
    (VisitPoint.writeOrder .tx 0).isBuffer = false := by
  unfold State.plainVisit Line.atRest
  decide

theorem witness_LateAnswersAreDiscarded :
    State.reset.settled = true ∧ State.reset.mem = none ∧
      (visiting 6 Line.reset true (.fetchOrder .rx false) .wordRead .rxOrderFetch).settled = true := by decide

/-- A line that assembles a character, with entries queued. -/
def hearing (setting : Word) (queue : List Entry) : State :=
  State.reset.setLine 15 { assembling setting with queue := queue, pacing := pacingAfter true queue.length }

theorem witness_CompletionsJoinDropOrAreLost :
    (∀ s ∈ [hearing 0x00004035 [], hearing 0x00004035 (List.replicate 7 (plainData 1)),
        hearing 0x00004035 (List.replicate 7 (plainData 1) ++ [.brk false]), hearing 0x00000435 []],
      s.open = true ∧ (s.line 15).receiver.phase = .assemble ∧ (s.line 15).receiver.loop = false ∧
        Line.atRest s (s.line 15)) ∧
    ((hearing 0x00000435 []).line 15).framed = true ∧ ((hearing 0x00004035 []).line 15).framed = false ∧
    setInband 0x00004035 = true ∧ lineValue { setting := 0x00004035, divisor := 48 } 0x41 ≠ 0 := by
  unfold Line.atRest
  decide

theorem witness_BreaksJoinAndWaitForMark :
    (∀ s ∈ [hearing 0x35 [], hearing 0x35 (List.replicate 7 (plainData 1)),
        hearing 0x35 (List.replicate 8 (plainData 1)), hearing 0x435 []],
      s.open = true ∧ (s.line 15).receiver.phase = .assemble ∧ (s.line 15).receiver.loop = false ∧
        Line.atRest s (s.line 15)) ∧
    ((hearing 0x435 []).line 15).framed = true ∧ ((hearing 0x35 []).line 15).framed = false ∧
    lineValue { setting := 0x25, divisor := 48 } 0x80 = 0 := by
  unfold Line.atRest
  decide

set_option maxRecDepth 8000 in
theorem witness_ReceiverPhasesFollowTheInput :
    let bits := [false, false, false, true, false, false, true, true, false];
    (State.reset.settled = true ∧ State.reset.windowShut = false ∧ (State.reset.line 0).receiver.phase = .recover) ∧
      ((inPower .standby).settled = true ∧ (inPower .standby).windowShut = true) ∧
      (∀ l ∈ [{ Line.reset with receiver := { Line.reset.receiver with phase := .search } },
          { Line.reset with receiver := { Line.reset.receiver with phase := .start } },
          looped .search 0 [] (fun _ => .empty) 0, looped .search 0 [] (loopChar 0x64) 0, looped .search 0 [] loopBreak 0,
          looped .start 383 [] (loopChar 0x64) 383, looped .start 384 [] (loopChar 0x64) 384,
          looped .start 384 [] (fun _ => .empty) 0, looped .assemble 1152 [false] (loopChar 0x64) 1152,
          looped .assemble 1153 [false, true] (loopChar 0x64) 1153, looped .assemble 7296 bits (loopChar 0x64) 7296,
          looped .recover 767 [] loopBreak 767, looped .recover 768 [] (fun _ => .empty) 0,
          looped .wakeRecover 7680 [] (fun _ => .empty) 0],
        let s := running.setLine 15 l;
        s.settled = true ∧ s.windowShut = false ∧ s.pending = [] ∧ s.beatClocks ≠ 7200 ∧ (s.line 15).sentOut = false ∧
          s.power ≠ .standbyEntry) ∧
      (looped .search 0 [] (loopChar 0x64) 0).loopFalls = true ∧
      (looped .search 0 [] (fun _ => .empty) 0).loopFalls = false ∧
      (looped .assemble 7296 bits (loopChar 0x64) 7296).completes = true ∧
      bits = (characterLevels { setting := 0x02000035, divisor := 48 } 0x64).take 9 ∧
      (looped .assemble 7296 bits (loopChar 0x64) 7296).loopLevel = true ∧
      stopSample { setting := 0x02000035, divisor := 48 } = 9 := by decide

theorem witness_FramedReceiverRecoversThePayload :
    framedLine.frameRx = .hunt ∧ framedLine.queue = [] ∧ framedLine.escapeChar ≠ framedLine.markChar ∧
      framedLine.escapeChar ≠ ~~~framedLine.markChar ∧ (1 ≤ ([0xA6] : List Byte).length) ∧
      ([1, 2, 3, 4, 5, 0xA5, 0xA6] : List Byte).length ≤ 7 := by decide

theorem witness_ErrorsPoisonAnOpenFrame :
    framedLine.escapeChar ≠ framedLine.markChar ∧ framedLine.frameRx = .hunt ∧
      (∀ m ∈ [FrameRx.collect, .escaped, .discard .overrun], ∀ b ∈ [([], 0), ([1], 1), ([1, 2], 2), ([1, 2], 3)],
        ∀ k ∈ [6, 7, 8],
        let l := { framedLine with
          frameRx := m
          tail := if m = FrameRx.collect ∨ m = FrameRx.escaped then b.1 else []
          frameBytes := b.2
          queue := List.replicate k (plainData 1)
          pacing := false
          framesDropped := 255 };
        l.unitOk) ∧
      (0x41 : Byte) ≠ framedLine.markChar ∧ (0x41 : Byte) ≠ framedLine.escapeChar := by decide

theorem witness_TransmitterSendsTheWholeFrame : ([0x41] : List Byte) ≠ [] := by decide

set_option maxRecDepth 8000 in
theorem witness_ShifterTakesTheNextByteOrEmpties :
    (∀ l ∈ [{ Line.reset with shifter := busy }, { Line.reset with shifter := busy, holding := some ⟨7, false, false, .echo⟩ },
        { Line.reset with shifter := busy, setting := 0x1035, holding := some ⟨7, false, false, .order⟩ },
        { framedLine with txPhase := .payload, shifter := sends (.frame false) 1 [] 0x435 },
        { framedLine with txPhase := .payload, abortPending := true, shifter := sends (.frame false) 1 [] 0x435 },
        { framedLine with holding := some ⟨0xA6, true, true, .order⟩, shifter := sends .abortPair 1 [] 0x435 },
        { framedLine with
          txPhase := .opening
          holding := some ⟨0xA6, false, true, .order⟩
          shifter := sends (.frame false) 1 [] 0x435 },
        { framedLine with txPhase := .close, shifter := sends (.frame true) 1 [] 0x435 },
        { framedLine with txPhase := .abort, shifter := sends .abortPair 1 [.plain 2] 0x435 },
        { framedLine with
          txPhase := .close
          shifter := .sending
            { what := .frame true, char := 1, rest := [], clocks := 7680, loop := false
              format := { setting := 0x435, divisor := 48 } } },
        { Line.reset with shifter := .brkMark { setting := 0x35, divisor := 48 } 0 false },
        { Line.reset with shifter := .brkMark { setting := 0x35, divisor := 48 } 768 true },
        { Line.reset with shifter := .brkMark { setting := 0x35, divisor := 48 } 767 true },
        { Line.reset with shifter := breaking }, looped .search 0 [] (loopChar 0x55) 7679,
        looped .search 0 [] (loopChar 0x55) 7680],
      let s := running.setLine 15 l;
      s.open = true ∧ Line.atRest s (s.line 15) ∧ s.seq ≠ .quiesced ∧ s.pending = [] ∧ s.beatClocks ≠ 7200) ∧
    (let s := { running.setLine 15 { Line.reset with shifter := busy } with seq := .quiesced };
      s.open = true ∧ Line.atRest s (s.line 15)) ∧
    characterClocks { setting := 0x435, divisor := 48 } = 7680 := by
  unfold Line.atRest
  decide

theorem witness_BreakIdleAndHoldConditionsFallDue :
    (∀ l ∈ [{ Line.reset with shifter := breaking }, looped .search 0 [] loopBreak 7679,
        looped .search 0 [] loopBreak 7680,
        { looped .assemble 7296 (List.replicate 9 false) loopBreak 7296 with idleStarted := true }],
      (running.setLine 15 l).open = true ∧ (running.setLine 15 l).pending = [] ∧
        (running.setLine 15 l).beatClocks ≠ 7200) ∧
      (looped .assemble 7296 (List.replicate 9 false) loopBreak 7296).completes = true ∧
      (∀ l ∈ [{ Line.reset with idleStarted := true, setting := 0x00030035, idleBits := 29 },
          { Line.reset with idleStarted := true, setting := 0x00030035, idleBits := 30 },
          { Line.reset with idleStarted := true }],
        (running.setLine 15 l).open = true ∧ (running.setLine 15 l).pending = [] ∧
          (running.setLine 15 l).beatClocks ≠ 7200) ∧
      (let s := { State.reset.setLine 15 { Line.reset with shifter := busy, idleStarted := true, setting := 0x00030035 }
          with power := .standbyEntry };
        s.open = true ∧ s.pending = [] ∧ s.beatClocks ≠ 7200 ∧ ∀ m : LineNo, (s.line m).sentOut = false) ∧
      State.reset.open = true := by decide

theorem witness_BeatBoundariesCountAndSample :
    ((inPower .standby).settled = true ∧ (inPower .standby).windowShut = true) ∧
      ((inPower .doze).settled = true ∧ (inPower .doze).windowShut = false) ∧
      (let s := transmitting (txOrder .block 1 4)
          { Line.reset with
            setting := 0x00101035
            holding := some ⟨7, false, false, .order⟩
            shifter := busy
            holdCount := 63 };
        s.settled = true ∧ s.windowShut = false ∧ (s.line 15).inHold = true ∧ setHoldLimit (s.line 15).setting = 1 ∧
          (s.line 15).holdStopped = false ∧ Line.atRest s (s.line 15)) ∧
      (∀ l ∈ [{ Line.reset with setting := 0x1035, abortPending := true },
          { framedLine with setting := 0x1435, txPhase := .payload },
          { Line.reset with setting := 0x1035 },
          { Line.reset with setting := 0x1035, holding := some ⟨7, false, false, .console⟩ },
          { framedLine with setting := 0x1435, holding := some ⟨0xA6, true, true, .order⟩ },
          { framedLine with setting := 0x1435, txPhase := .payload, holding := some ⟨0xA6, false, true, .order⟩ }],
        let s := running.setLine 15 { l with sensePrev := .sample true };
        s.settled = true ∧ Line.atRest s (s.line 15) ∧ (s.line 15).shifter = .empty ∧ (s.line 15).inHold = true ∧
          ((s.beat 0xFFFF).line 15).inHold = false ∧ ((s.beat 0xFFFF).line 15).countBefore = some 0) ∧
      (let s := { running with autoDoze := true };
        s.settled = true ∧ s.watchedIdle = true) := by
  unfold Line.atRest
  decide

theorem witness_CadenceTicksAndResweepsRestart :
    (let s := { State.reset with resweep := 1, resweepCount := 1 };
      s.resweep ≠ 0 ∧ s.resweep.toNat ≤ s.resweepCount) ∧
      (let s := { State.reset with resweep := 0xFFFF, resweepCount := 0xFFFE };
        s.resweepCount < s.resweep.toNat) := by decide

/-- A guard that has reached 0. -/
def expired (s : State) : State := { s with livenessEn := true, guardRunning := true, guardCount := 0 }

theorem witness_GuardExpiryQuiescesThePart :
    (running.holdsDue = false ∧ running.timeoutDue = false ∧ running.windowShut = false ∧ running.guardDue = false) ∧
    (let s := expired (visiting 9 Line.reset false .loadByte .byteRead .txBuffer);
      s.holdsDue = false ∧ s.timeoutDue = false ∧ s.windowShut = false ∧ s.guardDue = true ∧
        s.visit = some (visitTo 9 false .loadByte) ∧ s.power = .active) ∧
    (let s := expired (inPower .doze);
      s.holdsDue = false ∧ s.timeoutDue = false ∧ s.windowShut = false ∧ s.guardDue = true ∧ s.visit = none) := by decide

theorem witness_DozeAndStandbyAreEnteredWhenDue :
    (∀ barred ∈ [false, true],
      let s := { running with autoDoze := true, idleBeats := 2, dozeBarred := barred };
      s.timersSettled = true ∧ s.autoDozeDue = true) ∧
    (let s := inPower .standbyEntry;
      s.timersSettled = true ∧ s.power = .standbyEntry ∧ s.allDrained = true ∧ s.mem = none) ∧
    State.reset.settled = true := by decide

theorem witness_WakeEdgesWakeAndWakingEnds :
    (let s := { inPower .standby with wakeEn := 0x8000 };
      s.settled = true ∧ s.power = .standby ∧ (s.wakeEn &&& ~~~s.wakeLoop).getLsbD 15 = true) ∧
    (State.reset.settled = true ∧ State.reset.power ≠ .standby ∧ State.reset.power ≠ .waking) ∧
    (let s := { inPower .waking with resetHeld := true };
      s.settled = true ∧ s.power = .waking ∧ s.resetHeld = true) ∧
    (let s := { overflowed with power := .waking, wakeStart := 0xFFFF };
      s.settled = true ∧ s.power = .waking ∧ s.resetHeld = false ∧ s.portOk) := by decide

end Sys2Proof.Tests
end

section
/-! The checks of a fetched order word and frame word (R9, R12): each as one equation over the fields of the word, with
the reason of the first check that fails. -/

namespace Sys2Proof.Machine

/-! ### MODE and bits 27:26 (Tables 6 and 7) -/

/-- The receive modes that Table 7 marks invalid. -/
theorem rxModeOf_eq_none_iff (m : BitVec 3) : rxModeOf m = none ↔ m.toNat = 0 ∨ 5 ≤ m.toNat := by
  revert m
  decide

/-- The transmit modes that Table 7 marks invalid. -/
theorem txModeOf_eq_none_iff (m : BitVec 3) : txModeOf m = none ↔ m.toNat = 0 ∨ 6 ≤ m.toNat := by
  revert m
  decide

/-- A MODE value that selects a receive mode is that mode's value. -/
theorem toNat_of_rxModeOf {m : BitVec 3} {mode : RxMode} (h : rxModeOf m = some mode) :
    m.toNat = (rxModeBits mode).toNat := by
  unfold rxModeOf at h
  split at h <;> cases h <;> assumption

/-- A MODE value that selects a transmit mode is that mode's value. -/
theorem toNat_of_txModeOf {m : BitVec 3} {mode : TxMode} (h : txModeOf m = some mode) :
    m.toNat = (txModeBits mode).toNat := by
  unfold txModeOf at h
  split at h <;> cases h <;> assumption

/-- One of bits 27 and 26 is set exactly where the two-bit field is not zero. -/
theorem bit27_or_bit26_iff (w : Word) : (w.getLsbD 27 || w.getLsbD 26) = true ↔ w.extractLsb' 26 2 ≠ 0#2 := by
  rw [ne_eq, ← not_iff_not, not_not]
  simp [BitVec.eq_of_getLsbD_eq_iff, Nat.le_one_iff_eq_zero_or_eq_one, and_comm]

/-! ### The checks in their order -/

/-- The checks of R12 on an RX order word. -/
theorem rxRejection_eq (w : Word) (framed : Bool) :
    rxRejection w framed =
      if (modeBits w).toNat = 0 ∨ 5 ≤ (modeBits w).toNat then some 1
      else if w.extractLsb' 26 2 ≠ 0#2 then some 2
      else if (framed = true ∧ (modeBits w).toNat ≠ 4) ∨ (framed = false ∧ (modeBits w).toNat = 4) then some 4
      else none := by
  simp only [rxRejection, ← rxModeOf_eq_none_iff, bit27_or_bit26_iff]
  cases h : rxModeOf (modeBits w) with
  | none => simp
  | some mode =>
    rw [toNat_of_rxModeOf h]
    cases mode <;> cases framed <;> simp [rxModeBits]

/-- The checks of R12 on a TX order word. -/
theorem txRejection_eq (w : Word) (framed : Bool) :
    txRejection w framed =
      if (modeBits w).toNat = 0 ∨ 6 ≤ (modeBits w).toNat then some 1
      else if w.extractLsb' 26 2 ≠ 0#2 then some 2
      else if (modeBits w).toNat ≠ 3 ∧ (modeBits w).toNat ≠ 5 ∧
          ((framed = true ∧ (modeBits w).toNat ≠ 4) ∨ (framed = false ∧ (modeBits w).toNat = 4)) then some 4
      else if (modeBits w).toNat = 5 ∧ datumBits w = 0#8 then some 8
      else none := by
  simp only [txRejection, ← txModeOf_eq_none_iff, bit27_or_bit26_iff]
  cases h : txModeOf (modeBits w) with
  | none => simp
  | some mode =>
    rw [toNat_of_txModeOf h]
    cases mode <;> cases framed <;> simp [txModeBits]

/-- The checks of R9 on a frame word. -/
theorem frameRejection_eq (setting frame : Word) :
    frameRejection setting frame =
      if frame.extractLsb' 16 16 ≠ 0#16 then some 5
      else if setFramed setting = true ∧ frameMark frame = frameEscape frame then some 7
      else none := by
  simp [frameRejection, frameUpperZero]

/-! ### The reason of an invalid word -/

/-- An RX order word that fails a check has the reason of the first that fails. -/
theorem rxRejection_of_invalid {w : Word} {framed : Bool}
    (h : (modeBits w).toNat = 0 ∨ 5 ≤ (modeBits w).toNat ∨ w.extractLsb' 26 2 ≠ 0#2 ∨
      (framed = true ∧ (modeBits w).toNat ≠ 4) ∨ (framed = false ∧ (modeBits w).toNat = 4)) :
    rxRejection w framed =
      some (if (modeBits w).toNat = 0 ∨ 5 ≤ (modeBits w).toNat then 1
        else if w.extractLsb' 26 2 ≠ 0#2 then 2 else 4) := by
  rw [rxRejection_eq]
  split_ifs <;> tauto

/-- A TX order word that fails a check has the reason of the first that fails: where the mode is TX BREAK the framing
is not checked, so that only its DATUM is left. -/
theorem txRejection_of_invalid {w : Word} {framed : Bool}
    (h : ((modeBits w).toNat = 0 ∨ 6 ≤ (modeBits w).toNat) ∨ w.extractLsb' 26 2 ≠ 0#2 ∨
      ((modeBits w).toNat ≠ 3 ∧ (modeBits w).toNat ≠ 5 ∧
        ((framed = true ∧ (modeBits w).toNat ≠ 4) ∨ (framed = false ∧ (modeBits w).toNat = 4))) ∨
      ((modeBits w).toNat = 5 ∧ datumBits w = 0#8)) :
    txRejection w framed =
      some (if (modeBits w).toNat = 0 ∨ 6 ≤ (modeBits w).toNat then 1
        else if w.extractLsb' 26 2 ≠ 0#2 then 2
        else if (modeBits w).toNat = 5 then 8 else 4) := by
  rw [txRejection_eq]
  split_ifs <;> tauto

/-- A frame word that fails a check has the reason of the first that fails. -/
theorem frameRejection_of_invalid {setting frame : Word}
    (h : frame.extractLsb' 16 16 ≠ 0#16 ∨ (setFramed setting = true ∧ frameMark frame = frameEscape frame)) :
    frameRejection setting frame = some (if frame.extractLsb' 16 16 ≠ 0#16 then 5 else 7) := by
  rw [frameRejection_eq]
  split_ifs <;> tauto

end Sys2Proof.Machine
end

section
/-! What a fetched word leads to when the fetch ends there (R7, R8, R9, R12, R15, R43): a close from a state whose
memory engine is free, or the visit's next step. -/

namespace Sys2Proof.Machine

variable {s u : State} {v : Visit} {t : Txn} {w order : Word} {d : Dir} {reason : Byte}

/-! ### Closes of a fetched word -/

/-- The end of a transaction changes no line. -/
@[simp] theorem State.freeEngine_line (s : State) (n : LineNo) : s.freeEngine.line n = s.line n := rfl

/-- A close issues a write at once, so that it does not matter what the memory engine held before. -/
theorem beginClose_freeEngine (s : State) (v : Visit) (d : Dir) (order : Word) (length : Option Word) :
    beginClose s.freeEngine v d order length = beginClose s v d order length := by
  cases length <;> rfl

/-- A rejection for any reason but 3 closes with the order word only (R15). -/
theorem reject_of_ne (hne : reason ≠ 3) :
    reject s.freeEngine v d order reason = beginClose s v d (closedFetched order reason codeRejected) none := by
  rw [reject, beginClose_freeEngine, if_neg hne]

/-! ### Fetched words that end the fetch -/

/-- An RX order word that fails a check is rejected (R12). -/
theorem fetchedOrder_rx_invalid (how : ownBit w = true)
    (h : rxRejection w (s.line v.line).framed = some reason) (hne : reason ≠ 3) :
    fetchedOrder s.freeEngine v .rx w = beginClose s v .rx (closedFetched w reason codeRejected) none := by
  simp [fetchedOrder, how, fetchedRx, h, reject_of_ne hne]

/-- A TX order word that fails a check is rejected (R12). -/
theorem fetchedOrder_tx_invalid (how : ownBit w = true)
    (h : txRejection w (s.line v.line).framed = some reason) (hne : reason ≠ 3) :
    fetchedOrder s.freeEngine v .tx w = beginClose s v .tx (closedFetched w reason codeRejected) none := by
  simp [fetchedOrder, how, fetchedTx, h, reject_of_ne hne]

/-- A length word with LENGTH 0 is rejected, and written back as 0 first (R7, R15). -/
theorem fetchedLength_zero {address : Word} (h : lengthBits w = 0) :
    fetchedLength s.freeEngine v d order address w =
      beginClose s v d (closedFetched order 3 codeRejected) (some 0) := by
  simp [fetchedLength, h, reject, beginClose_freeEngine]

/-- A setting word that fails its checks is rejected (R8). -/
theorem fetchedSetting_invalid (h : settingValid w = false) :
    fetchedSetting s.freeEngine v order w = beginClose s v .tx (closedFetched order 5 codeRejected) none := by
  rw [← reject_of_ne (by decide)]
  simp [fetchedSetting, h]

/-- A frame word that fails a check is rejected (R9). -/
theorem fetchedFrame_invalid {setting : Word} (h : frameRejection setting w = some reason) (hne : reason ≠ 3) :
    fetchedFrame s.freeEngine v order setting w =
      beginClose s v .tx (closedFetched order reason codeRejected) none := by
  simp [fetchedFrame, h, reject_of_ne hne]

/-- A cancel fetch closes an order with OWN = 1 CANCELLED (R43). -/
theorem fetchedCancel_own (how : ownBit w = true) :
    fetchedCancel s.freeEngine v d w = beginClose s v d (closedFetched w 0 codeCancelled) none := by
  rw [fetchedCancel, if_pos how, beginClose_freeEngine]

/-- A TX cancel fetch of a word with OWN = 0 clears CANCEL_PENDING, and the visit ends (R35, R43). -/
theorem fetchedCancel_tx_host (how : ownBit w = false) (hp : s.plainVisit v) :
    fetchedCancel s.freeEngine v .tx w =
      { s.setLine v.line { s.line v.line with txCancel := false } with
        visit := none, mem := none, seq := s.seq.afterVisit } := by
  obtain ⟨-, hheld, hseq, hpower, hreq⟩ := hp
  simp only [fetchedCancel, how, Bool.false_eq_true, if_false, afterStep]
  exact endVisit_plain hheld hseq hpower hreq

/-- An RX cancel fetch of a word with OWN = 0 clears CANCEL_PENDING, and the visit goes on to the fetch of the transmit
order (R35, R38, R43). -/
theorem fetchedCancel_rx_host (how : ownBit w = false) (ho : (s.line v.line).txOrder = none)
    (hc : v.txCancel = true ∨ v.attn = true) :
    fetchedCancel s.freeEngine v .rx w =
      issueFetch (s.setLine v.line { s.line v.line with rxCancel := false }) v .tx v.txCancel := by
  simp only [fetchedCancel, how, Bool.false_eq_true, if_false, afterStep, txStep, State.onLine_eq,
    State.freeEngine_line, State.line_setLine_self, ho]
  cases htx : v.txCancel with
  | true => rfl
  | false =>
    have hattn : v.attn = true := by simpa [htx] using hc
    simp only [hattn, Bool.false_eq_true, if_false, if_true]
    rfl

/-! ### The answer -/

/-- The awaited word of a word read leads to what its arrival makes of the state with the memory engine free. -/
theorem leads_wordRead (hv : s.visit = some v) (hm : s.mem = some t) (ha : s.awaits t = true)
    (hr : t.request = .wordRead) (e : wordArrived s.freeEngine v w = u) :
    Leads (exec (.wordRead t.tag (.ok w)) s) u := by
  rw [exec_wordRead]
  refine leads_answered hv hm ha ?_
  simpa only [answerWordRead, State.awaited_self hv hm, hr] using e

/-! ### The statement -/

/-- Settles O41: each clause names the point the visit waits at; the word's arrival there is a rejection, a cancel's
close or the visit's next step, and a close over a line at rest clears its direction and issues its first write. -/
theorem fetchesRejectInvalidOrders : Obligations.FetchesRejectInvalidOrders := by
  unfold Obligations.FetchesRejectInvalidOrders
  intro s v t w hv hm ha hr l hl rejected cleared block
  have arrives {u : State} : wordArrived s.freeEngine v w = u → Leads (exec (.wordRead t.tag (.ok w)) s) u :=
    leads_wordRead hv hm ha hr
  refine ⟨?_, ?_, ?_, ?_, ?_, ?_, ?_, ?_⟩
  · -- An RX order word (R12).
    intro hp how mode hbad order
    apply arrives
    simp only [wordArrived, hp]
    rw [fetchedOrder_rx_invalid how (rxRejection_of_invalid hbad) (by split_ifs <;> decide),
      beginClose_of_rest _ _ _ hl]
    rfl
  · -- A TX order word (R12).
    intro hp how mode invalid wrongFraming hbad order
    apply arrives
    simp only [wordArrived, hp]
    rw [fetchedOrder_tx_invalid how (txRejection_of_invalid hbad) (by split_ifs <;> decide),
      beginClose_of_rest _ _ _ hl]
    rfl
  · -- A length word (R7).
    intro d order address hp hlength
    apply arrives
    simp only [wordArrived, hp]
    rw [fetchedLength_zero hlength, beginClose_of_rest _ _ _ hl]
    cases d <;> rfl
  · -- A setting word (R8).
    intro order hp hsetting
    apply arrives
    simp only [wordArrived, hp]
    rw [fetchedSetting_invalid hsetting, beginClose_of_rest _ _ _ hl]
    rfl
  · -- A frame word (R9).
    intro order setting hp hbad answer
    apply arrives
    simp only [wordArrived, hp]
    rw [fetchedFrame_invalid (frameRejection_of_invalid hbad) (by split_ifs <;> decide),
      beginClose_of_rest _ _ _ hl]
    rfl
  · -- A cancel fetch of a word with OWN = 1 (R43).
    intro d hp how order
    apply arrives
    simp only [wordArrived, hp]
    rw [fetchedCancel_own how, beginClose_of_rest _ _ _ hl]
    cases d <;> rfl
  · -- A TX cancel fetch of a word with OWN = 0 (R43).
    intro hp how hplain
    apply arrives
    simp only [wordArrived, hp]
    exact fetchedCancel_tx_host how hplain
  · -- An RX cancel fetch of a word with OWN = 0 (R43).
    intro hp how ho hc
    apply arrives
    simp only [wordArrived, hp]
    exact fetchedCancel_rx_host how ho hc

end Sys2Proof.Machine
end

section
/-! The fields of a register's word: which bits of the word a placed field or flag sets (Table 49). -/

namespace Sys2Proof.Machine

/-- A field holds its value's bits from its place upwards. -/
theorem getLsbD_placed (n shift i : Nat) :
    (placed n shift).getLsbD i = (decide (i < 32) && decide (shift ≤ i) && n.testBit (i - shift)) := by
  have hlow : (!decide (i < shift)) = decide (shift ≤ i) := by simp [← decide_not]
  have hfits : i < 32 → i - shift < 32 := fun h => by omega
  rw [placed, BitVec.getLsbD_shiftLeft, BitVec.getLsbD_ofNat, hlow]
  by_cases hi : i < 32 <;> simp [hi, hfits]

/-- A field sets no bit above its value. -/
theorem getLsbD_placed_above {n shift i : Nat} (h : n < 2 ^ (i - shift)) : (placed n shift).getLsbD i = false := by
  rw [getLsbD_placed, Nat.testBit_lt_two_pow h, Bool.and_false]

/-- A flag sets its own bit of the word and no other. -/
theorem getLsbD_flagAt (b : Bool) (shift i : Nat) :
    (flagAt b shift).getLsbD i = (b && decide (i = shift ∧ i < 32)) := by
  rw [flagAt, getLsbD_placed]
  rcases lt_trichotomy i shift with hlt | heq | hgt
  · simp [Nat.not_le.2 hlt, hlt.ne]
  · cases b <;> simp [heq]
  · have habove : b.toNat < 2 ^ (i - shift) := b.toNat_lt.trans_le (Nat.le_self_pow (by omega) 2)
    simp [Nat.testBit_lt_two_pow habove, hgt.ne']

/-- The sequencer's field is three bits wide. -/
theorem seqBits_lt (q : SeqState) : seqBits q < 8 := by cases q <;> decide

/-- The power field is three bits wide. -/
theorem powerBits_lt (p : PowerState) : powerBits p < 8 := by cases p <;> decide

/-- INT_CAUSE shows the event condition in bit 16: the two fields of STATUS end below it, and every other flag has a bit
of its own. -/
theorem State.statusWord_bit16 (s : State) : s.statusWord.getLsbD 16 = s.eventCondition := by
  have hseq : (placed (seqBits s.seq) 0).getLsbD 16 = false :=
    getLsbD_placed_above ((seqBits_lt s.seq).trans (by decide))
  have hpower : (placed (powerBits s.power) 4).getLsbD 16 = false :=
    getLsbD_placed_above ((powerBits_lt s.power).trans (by decide))
  simp only [State.statusWord, BitVec.getLsbD_or, hseq, hpower, getLsbD_flagAt]
  simp

end Sys2Proof.Machine
end

section
/-! The event interrupt condition (R139): what raises it, and what follows on an empty and on a full queue, after the
resets and at the IRQ pin. -/

namespace Sys2Proof.Machine

/-! ### What raises the condition -/

/-- The urgent kinds (Table 36). -/
theorem EventKind.urgent_iff (k : EventKind) : k.urgent = true ↔ k = .lineFault ∨ k = .loss ∨ k = .liveness := by
  cases k <;> decide

/-- A THRESHOLD code is one of the four. -/
theorem threshold_code_cases (c : BitVec 2) : c = 0 ∨ c = 1 ∨ c = 2 ∨ c = 3 := by
  revert c
  decide

/-- Every THRESHOLD asks for a record. -/
theorem thresholdCount_pos (c : BitVec 2) : 0 < thresholdCount c := by
  rcases threshold_code_cases c with rfl | rfl | rfl | rfl <;> decide

/-- No THRESHOLD asks for more than 16 records, half of what the queue holds. -/
theorem thresholdCount_le (c : BitVec 2) : thresholdCount c ≤ 16 := by
  rcases threshold_code_cases c with rfl | rfl | rfl | rfl <;> decide

/-- The condition holds by count, by the head's age, or by an urgent record. -/
theorem State.eventCondition_iff (s : State) : s.eventCondition = true ↔
    thresholdCount s.threshold ≤ s.events.length ∨
      (∃ e, s.events.head? = some e ∧ s.ageLimit ≠ 0 ∧ s.ageLimit.toNat ≤ e.age) ∨
      ∃ e ∈ s.events, e.kind = .lineFault ∨ e.kind = .loss ∨ e.kind = .liveness := by
  cases h : s.events <;> simp [State.eventCondition, h, EventKind.urgent_iff, or_assoc]

/-! ### The empty and the full queue -/

/-- On an empty queue nothing raises the condition. -/
theorem State.eventCondition_of_empty {s : State} (h : s.events = []) : s.eventCondition = false := by
  rw [Bool.eq_false_iff, Ne, State.eventCondition_iff]
  simp [h, (thresholdCount_pos s.threshold).ne']

/-- A count that reaches every THRESHOLD raises the condition. -/
theorem State.eventCondition_of_length {s : State} (h : 16 ≤ s.events.length) : s.eventCondition = true :=
  s.eventCondition_iff.2 (.inl ((thresholdCount_le s.threshold).trans h))

/-- With THRESHOLD code 0 a single record raises the condition, so that it holds exactly on a queue with records. -/
theorem State.eventCondition_iff_ne_nil {s : State} (h : s.threshold = 0) :
    s.eventCondition = true ↔ s.events ≠ [] := by
  refine ⟨fun hcond hempty => ?_, fun hne => s.eventCondition_iff.2 (.inl ?_)⟩
  · simp [State.eventCondition_of_empty hempty] at hcond
  · rw [h]
    exact List.length_pos_iff.2 hne

/-! ### The pin -/

/-- The condition drives IRQ through EVENT_IE (R140). -/
theorem State.irq_of_eventCondition {s : State} (hie : s.eventIe = true) (hcond : s.eventCondition = true) :
    s.irq = true := by
  simp [State.irq, hie, hcond]

/-! ### The statement -/

/-- Settles O31: the condition as its three sources, the four THRESHOLD codes read out one by one; the other clauses
follow from the count alone, from the resets' values and from the place of the condition in STATUS and in IRQ. -/
theorem eventConditionHoldsByCountAgeOrUrgency : Obligations.EventConditionHoldsByCountAgeOrUrgency := by
  unfold Obligations.EventConditionHoldsByCountAgeOrUrgency
  refine ⟨fun s => ?_, fun s => State.eventCondition_of_empty, fun s hfull => ?_, fun s b => rfl,
    fun s hthreshold _ => State.eventCondition_iff_ne_nil hthreshold, fun s => ⟨⟨rfl, rfl⟩, rfl, rfl⟩,
    fun s => ⟨s.statusWord_bit16, State.irq_of_eventCondition⟩⟩
  · rw [State.eventCondition_iff]
    rcases threshold_code_cases s.threshold with h | h | h | h <;> rw [h] <;> rfl
  · exact State.eventCondition_of_length (by omega)

end Sys2Proof.Machine
end

section
/-! KEEPALIVE and the key pair (R165): what a whole-word write does behind the power-state gate, and why a part that has
quiesced has no counter for it to reload. -/

namespace Sys2Proof.Machine

variable {s : State} {f : State → State}

/-! ### Writes at the gate -/

/-- An open part has nothing due, and its window takes writes. -/
theorem State.open_iff (s : State) : s.open = true ↔ s.settled = true ∧ s.windowShut = false := by
  simp [State.open]

/-- On an open part a gated write takes its effect. -/
theorem leads_gated_of_open (h : s.open = true) : Leads (command (fun s => s.gated f) s) (f s) := by
  obtain ⟨hsettled, hshut⟩ := s.open_iff.1 h
  exact leads_command hsettled (State.gated_open hshut)

/-- In STANDBY and WAKING a gated write leads to its refusal (R161, R163). -/
theorem leads_gated_of_shut (hsettled : s.settled = true) (hshut : s.windowShut = true) :
    Leads (command (fun s => s.gated f) s) s.refuseWrite :=
  leads_command hsettled (State.gated_shut hshut)

/-- A write of a register at less than its whole word is refused (R170). -/
theorem State.writeOffset_of_narrow {offset : BitVec 8} {lanes : Lanes} {r : Reg} (hreg : regAt offset = some r)
    (hlanes : lanes ≠ wholeWord) (value : Word) : s.writeOffset offset lanes value = s.refuseWrite := by
  simp only [State.writeOffset, hreg, if_neg hlanes]

/-! ### The keys -/

/-- The period that a refresh loads: a stored 0 acts as 1 (R164). -/
theorem State.guardPeriod_eq (s : State) : s.guardPeriod = max 1 s.livenessPeriod.toNat := by
  unfold State.guardPeriod
  split
  next h => simp [h]
  next h =>
    have hpos : s.livenessPeriod.toNat ≠ 0 := fun h0 => h (BitVec.eq_of_toNat_eq h0)
    omega

/-- A value is compared with the two keys: the flag says whether it was the first, and the second after the first
refreshes an armed, running counter. Nothing else changes. -/
theorem State.key_eq (s : State) (value : Word) : s.key value =
    { s with
      firstKey := decide (value = 0x0000003C)
      guardCount :=
        if value = 0x000000C3 ∧ s.firstKey = true ∧ s.livenessEn = true ∧ s.guardRunning = true then
          max 1 s.livenessPeriod.toNat
        else s.guardCount } := by
  rw [← State.guardPeriod_eq]
  by_cases hfirst : value = 0x3C
  · simp [State.key, hfirst]
  · by_cases hrefresh : value = 0xC3 ∧ s.firstKey = true
    · simp [State.key, hrefresh]
    · have hnone : ¬(value = 0xC3 ∧ s.firstKey = true ∧ s.livenessEn = true ∧ s.guardRunning = true) :=
        fun h => hrefresh ⟨h.1, h.2.1⟩
      simp only [State.key, if_neg hfirst, if_neg hrefresh, if_neg hnone, decide_eq_false hfirst]

/-- With the counter stopped a KEEPALIVE value moves the flag only. -/
theorem State.key_of_stopped (h : s.guardRunning = false) (value : Word) :
    s.key value = { s with firstKey := decide (value = 0x0000003C) } := by
  rw [State.key_eq]
  simp [h]

/-- In QUIESCING and QUIESCED the counter is stopped: the part quiesces only by the guard's expiry, which ends the
count (R166). -/
theorem State.guardRunning_of_quiet (htimers : s.timersOk) (hcontrol : s.controlOk) (hquiet : s.quiet = true) :
    s.guardRunning = false := by
  obtain ⟨-, -, -, hexpired, -⟩ := hcontrol
  obtain ⟨-, -, -, -, -, -, hstopped, -⟩ := htimers
  exact (hstopped (hexpired hquiet)).2

/-- On an open part a whole-word KEEPALIVE write is compared with the keys. -/
theorem leads_keepalive (h : s.open = true) (value : Word) : Leads (exec (.keepalive value) s) (s.key value) := by
  rw [exec_keepalive]
  exact leads_gated_of_open h

/-- In STANDBY and WAKING a whole-word KEEPALIVE write is refused. -/
theorem leads_keepalive_of_shut (hsettled : s.settled = true) (hshut : s.windowShut = true) (value : Word) :
    Leads (exec (.keepalive value) s) s.refuseWrite := by
  rw [exec_keepalive]
  exact leads_gated_of_shut hsettled hshut

/-! ### The statement -/

/-- Settles O14: through the gate the write is `State.key`, at a shut gate and at a narrower width it is refused, and a
quiesced part's counter is stopped, so that only the flag moves. -/
theorem keepaliveRefreshesByItsKeyPair : Obligations.KeepaliveRefreshesByItsKeyPair := by
  unfold Obligations.KeepaliveRefreshesByItsKeyPair
  refine ⟨fun v s hopen => ?_, fun v s hsettled hshut => leads_keepalive_of_shut hsettled hshut v,
    fun lanes v s hsettled hlanes => ?_, fun v s hopen htimers hcontrol hquiet => ?_, fun s => ⟨rfl, rfl⟩, rfl,
    fun s => ⟨rfl, rfl⟩⟩
  · rw [← State.key_eq]
    exact leads_keepalive hopen v
  · have hreg : regAt 0x38 = some .keepalive := rfl
    rw [exec_registerWrite]
    exact leads_command hsettled (State.writeOffset_of_narrow hreg hlanes v)
  · rw [← State.key_of_stopped (State.guardRunning_of_quiet htimers hcontrol hquiet)]
    exact leads_keepalive hopen v

end Sys2Proof.Machine
end

section
/-! Words of the register window as fields side by side (Tables 10, 39, 48, 50 to 52): a word written out with `++` is
the disjunction of its fields, each at its place, so each register's word can be read off its table. -/

namespace Sys2Proof.Machine

/-! ### Fields side by side -/

/-- A word stands at bit 0. -/
theorem eq_placed (x : Word) : x = placed x.toNat 0 := by
  simp [placed]

/-- Of two fields side by side the upper one stands as many bits higher as the lower one is wide. -/
theorem placed_append {m n : Nat} (a : BitVec m) (b : BitVec n) (shift : Nat) :
    placed (a ++ b).toNat shift = placed a.toNat (n + shift) ||| placed b.toNat shift := by
  apply BitVec.eq_of_getLsbD_eq
  intro i _
  simp only [BitVec.getLsbD_or, getLsbD_placed, BitVec.testBit_toNat, BitVec.getLsbD_append]
  by_cases hlow : i < n + shift
  · have hbelow : shift ≤ i → i - shift < n := by omega
    by_cases hshift : shift ≤ i <;> simp [hshift, hbelow, hlow.not_ge]
  · have habove : n ≤ i - shift := by omega
    have hrest : i - (n + shift) = i - shift - n := by omega
    simp [habove.not_gt, hrest, BitVec.getLsbD_of_ge b _ habove, not_lt.1 hlow, show shift ≤ i by omega]

/-- A field of zeros adds nothing. -/
theorem placed_zeros (w shift : Nat) : placed (0#w).toNat shift = 0#32 := by
  simp [placed]

/-- A field of one bit is a flag. -/
theorem placed_ofBool (b : Bool) (shift : Nat) : placed (BitVec.ofBool b).toNat shift = flagAt b shift := by
  cases b <;> rfl

/-- A number that its field can hold stands there whole. -/
theorem placed_ofNat {w n : Nat} (h : n < 2 ^ w) (shift : Nat) :
    placed (BitVec.ofNat w n).toNat shift = placed n shift := by
  rw [BitVec.toNat_ofNat, Nat.mod_eq_of_lt h]

/-- Fields may stand in any order. -/
theorem word_or_left_comm (a b c : Word) : a ||| (b ||| c) = b ||| (a ||| c) := by
  ac_rfl

/-- A 16-bit register reads 0 above bit 15 (R172). -/
theorem setWidth_eq_append_zeros (x : BitVec 16) : x.setWidth 32 = (0#16 ++ x : Word) :=
  BitVec.setWidth_eq_append (by decide)

/-! ### The words of the tables -/

/-- CONTROL (Table 50). -/
theorem State.controlWord_eq (s : State) : s.controlWord =
    0#23 ++ BitVec.ofBool s.livenessEn ++ 0#3 ++ BitVec.ofBool s.alertIe ++ BitVec.ofBool s.conTxIe ++
      BitVec.ofBool s.conRxIe ++ BitVec.ofBool s.tickIe ++ BitVec.ofBool s.eventIe := by
  rw [eq_placed (_ ++ _)]
  repeat rw [placed_append]
  simp only [placed_zeros, placed_ofBool, BitVec.zero_or, BitVec.or_zero, Nat.reduceAdd,
    State.controlWord]
  ac_rfl

/-- POWER (Table 48). -/
theorem State.powerWord_eq (s : State) : s.powerWord =
    0#21 ++ BitVec.ofNat 3 (powerBits s.power) ++ 0#3 ++ BitVec.ofBool s.autoDoze ++ 0#2 ++
      BitVec.ofNat 2 (reqBits s.req) := by
  have hpower : powerBits s.power < 2 ^ 3 := powerBits_lt s.power
  have hreq : reqBits s.req < 2 ^ 2 := by cases s.req <;> decide
  rw [eq_placed (_ ++ _)]
  repeat rw [placed_append]
  simp only [placed_zeros, placed_ofBool, placed_ofNat hpower, placed_ofNat hreq,
    BitVec.zero_or, BitVec.or_zero, Nat.reduceAdd, State.powerWord]
  ac_rfl

/-- COALESCE (R141). -/
theorem State.coalesceWord_eq (s : State) : s.coalesceWord = 0#16 ++ s.ageLimit ++ 0#6 ++ s.threshold := by
  rw [eq_placed (_ ++ _)]
  repeat rw [placed_append]
  simp only [placed_zeros, BitVec.zero_or, BitVec.or_zero, Nat.reduceAdd, State.coalesceWord]
  ac_rfl

/-- FAULT_DESC (Table 39), whose count saturates at the 255 its field holds (R144). -/
theorem FaultDesc.word_eq {d : FaultDesc} (hcount : d.count < 2 ^ 8) : d.word =
    0#8 ++ BitVec.ofNat 8 d.count ++ 0#6 ++ BitVec.ofNat 2 (shownCause d.cause) ++ 0#1 ++
      BitVec.ofNat 3 (accessBits d.access) ++ BitVec.ofNat 4 d.line.val := by
  have hcause : shownCause d.cause < 2 ^ 2 := by rcases d.cause with _ | _ | _ <;> decide
  have haccess : accessBits d.access < 2 ^ 3 := by cases d.access <;> decide
  have hline : d.line.val < 2 ^ 4 := d.line.isLt
  rw [eq_placed (_ ++ _)]
  repeat rw [placed_append]
  simp only [placed_zeros, placed_ofNat hcount, placed_ofNat hcause, placed_ofNat haccess,
    placed_ofNat hline, BitVec.zero_or, BitVec.or_zero, Nat.reduceAdd, FaultDesc.word]

/-- LINE_SELECT (R176). -/
theorem placed_lineNo (n : LineNo) : placed n.val 0 = (0#28 ++ BitVec.ofNat 4 n.val : Word) := by
  have hline : n.val < 2 ^ 4 := n.isLt
  rw [eq_placed (_ ++ _), placed_append, placed_zeros, placed_ofNat hline, BitVec.zero_or]

/-- LINE_STATE (Table 51), whose queue count is at most eight (R52). -/
theorem State.lineStateWord_eq {s : State} {n : LineNo} (hqueue : (s.line n).queue.length < 2 ^ 4) :
    s.lineStateWord n =
      0#12 ++ BitVec.ofNat 4 (s.line n).queue.length ++ 0#6 ++ BitVec.ofBool (s.ctlPin n) ++
        BitVec.ofBool (s.line n).sense ++ 0#1 ++ BitVec.ofBool (s.line n).inbandHold ++
        BitVec.ofBool (s.line n).inHold ++ BitVec.ofBool (s.line n).drainWait ++ BitVec.ofBool (s.line n).attn ++
        BitVec.ofBool (s.line n).faulted ++ BitVec.ofBool (s.line n).txOrder.isSome ++
        BitVec.ofBool (s.line n).rxOrder.isSome := by
  rw [eq_placed (_ ++ _)]
  repeat rw [placed_append]
  simp only [placed_zeros, placed_ofBool, placed_ofNat hqueue, BitVec.zero_or, BitVec.or_zero,
    Nat.reduceAdd, State.lineStateWord]
  simp only [BitVec.or_comm, word_or_left_comm, BitVec.or_assoc]

/-- LINE_FRAME (Table 10). -/
theorem Line.frameWord_eq (l : Line) : l.frameWord = 0#16 ++ l.escapeChar ++ l.markChar := by
  rw [eq_placed (_ ++ _)]
  repeat rw [placed_append]
  simp only [placed_zeros, BitVec.zero_or, Nat.reduceAdd, Line.frameWord]

/-- LINE_COUNTS (Table 52), whose two counts saturate at 255. -/
theorem Line.countsWord_eq {l : Line} (hchange : l.changeCount < 2 ^ 8) (hdropped : l.framesDropped < 2 ^ 8) :
    l.countsWord = 0#16 ++ BitVec.ofNat 8 l.changeCount ++ BitVec.ofNat 8 l.framesDropped := by
  rw [eq_placed (_ ++ _)]
  repeat rw [placed_append]
  simp only [placed_zeros, placed_ofNat hchange, placed_ofNat hdropped, BitVec.zero_or, Nat.reduceAdd,
    Line.countsWord]
  ac_rfl

end Sys2Proof.Machine
end

section
/-! Reads of the register window (R172): what a read shows after a write, and that a read outside Table 46 changes
nothing. -/

namespace Sys2Proof.Machine

variable {s t u : State}

/-- A take does not look at the idle watch. -/
theorem State.takeEvent_events_setIdle (s : State) (k : Nat) :
    State.events (State.takeEvent { s with idleBeats := k }) = s.takeEvent.events := by
  unfold State.takeEvent
  rcases s.events with _ | _ <;> cases s.overflow <;> rfl

/-- The idle watch stands in no register. -/
theorem State.readWord_of_agrees (h : t.agrees u) (r : Reg) : t.readWord r = u.readWord r := by
  obtain ⟨hfields, -⟩ := h
  generalize t.idleBeats = k at hfields
  subst hfields
  cases r with
  | eventTake =>
    simp only [State.readWord, State.takeEvent_events_setIdle]
    rfl
  | _ => rfl

/-- What a command leads to is what the next read shows. -/
theorem Leads.readWord {res : Result} (h : Leads res u) (r : Reg) :
    ∃ t, res = .next t ∧ t.readWord r = u.readWord r := by
  obtain ⟨t, hnext, hagrees⟩ := h
  exact ⟨t, hnext, State.readWord_of_agrees hagrees r⟩

/-- On an open part a gated write is followed by a read of what it has stored in bits 15:0, with 0 above (R172). -/
theorem readWord_of_gated (hopen : s.open = true) {f : State → State} {r : Reg} {x : BitVec 16}
    (hstored : (f s).readWord r = x.setWidth 32) :
    ∃ t, command (fun s => s.gated f) s = .next t ∧ t.readWord r = 0#16 ++ x := by
  rw [← setWidth_eq_append_zeros, ← hstored]
  exact (leads_gated_of_open hopen).readWord r

/-- A read outside Table 46 changes no state. -/
theorem State.readEffect_eq_self {r : Reg} (hstatus : r ≠ .status) (htake : r ≠ .eventTake)
    (hlevel : r ≠ .eventLevel) (hclass : r ≠ .classData) (hdata : r ≠ .conData) (hconsole : r ≠ .conStatus) :
    s.readEffect r = s := by
  cases r with
  | status => exact absurd rfl hstatus
  | eventTake => exact absurd rfl htake
  | eventLevel => exact absurd rfl hlevel
  | classData => exact absurd rfl hclass
  | conData => exact absurd rfl hdata
  | conStatus => exact absurd rfl hconsole
  | _ => rfl

/-! ### The statement -/

/-- Settles O32: a gated write is read back from the field it stores, each other word is put together from the fields of
its table, whose counts the invariants keep within their fields, and outside Table 46 a read leaves the state alone. -/
theorem readsOutsideTable46ChangeNothing : Obligations.ReadsOutsideTable46ChangeNothing := by
  unfold Obligations.ReadsOutsideTable46ChangeNothing
  refine ⟨fun _ => rfl, fun v s hopen => ⟨?_, ?_, ?_, fun hunarmed => ?_⟩, fun s hunits htimers => ?_,
    fun r s => State.readEffect_eq_self⟩
  · rw [exec_resweep]
    exact readWord_of_gated hopen rfl
  · rw [exec_cadence]
    exact readWord_of_gated hopen rfl
  · rw [exec_customDivisor]
    exact readWord_of_gated hopen rfl
  · rw [exec_livenessPeriod]
    exact readWord_of_gated hopen (by rw [hunarmed]; rfl)
  · obtain ⟨-, -, -, -, -, -, -, -, hfaults, -, -⟩ := htimers
    obtain ⟨hqueue, -, -, -, -, -, hchange, -, hdropped, -⟩ := hunits s.lineSelect
    rw [Config.queueCapacity] at hqueue
    refine ⟨?_, s.coalesceWord_eq, rfl, ?_, placed_lineNo _, State.lineStateWord_eq (by omega), rfl,
      Line.frameWord_eq _, Line.countsWord_eq (by omega) (by omega)⟩
    · refine s.powerWord_eq.trans ?_
      cases s.power <;> cases s.req <;> rfl
    · refine (FaultDesc.word_eq (by omega)).trans ?_
      rcases s.faultDesc.cause with _ | _ | _ <;> cases s.faultDesc.access <;> rfl

end Sys2Proof.Machine
end

section
/-! What leaves CONTROL and LIVENESS_PERIOD alone (R164, R175): every operation that a command but the writes of the two
registers and the resets is made of, in the order of the model's definitions. -/

namespace Sys2Proof.Machine

/-- The stored fields of CONTROL and LIVENESS_PERIOD: the five interrupt enables, LIVENESS_EN and the period. -/
structure ControlRegs where
  eventIe : Bool
  tickIe : Bool
  conRxIe : Bool
  conTxIe : Bool
  alertIe : Bool
  livenessEn : Bool
  livenessPeriod : BitVec 16

/-- What CONTROL and LIVENESS_PERIOD hold in a state. -/
def State.controlRegs (s : State) : ControlRegs where
  eventIe := s.eventIe
  tickIe := s.tickIe
  conRxIe := s.conRxIe
  conTxIe := s.conTxIe
  alertIe := s.alertIe
  livenessEn := s.livenessEn
  livenessPeriod := s.livenessPeriod

/-- CONTROL reads the same where its fields are the same. -/
theorem State.controlWord_of_controlRegs {s t : State} (h : t.controlRegs = s.controlRegs) :
    t.controlWord = s.controlWord := by
  obtain ⟨hevent, htick, hrx, htx, halert, harmed, -⟩ := ControlRegs.mk.inj h
  simp only [State.controlWord, hevent, htick, hrx, htx, halert, harmed]

variable (s : State) (v : Visit)

/-! ### Lines, events and refusals -/

@[simp] theorem controlRegs_setLine (n : LineNo) (l : Line) : (s.setLine n l).controlRegs = s.controlRegs := rfl

@[simp] theorem controlRegs_onLines (f : LineNo → Line → Line) : (s.onLines f).controlRegs = s.controlRegs := rfl

@[simp] theorem controlRegs_offer (e : EventRec) : (s.offer e).controlRegs = s.controlRegs := by
  rw [State.offer_eq]
  rfl

@[simp] theorem controlRegs_refuseWrite : s.refuseWrite.controlRegs = s.controlRegs := rfl

@[simp] theorem controlRegs_refuseCommand : s.refuseCommand.controlRegs = s.controlRegs := rfl

variable {s} in
/-- The gate leaves the registers alone where what it lets through does. -/
theorem controlRegs_gated {f : State → State} (hf : ∀ u, (f u).controlRegs = u.controlRegs) :
    (s.gated f).controlRegs = s.controlRegs := by
  unfold State.gated
  split
  · rfl
  · exact hf s

/-! ### Power state and sequencer state -/

@[simp] theorem controlRegs_endDoze : s.endDoze.controlRegs = s.controlRegs := by
  unfold State.endDoze
  split <;> rfl

@[simp] theorem controlRegs_abandonStandby : s.abandonStandby.controlRegs = s.controlRegs := rfl

@[simp] theorem controlRegs_enterDoze : s.enterDoze.controlRegs = s.controlRegs := by
  rw [State.enterDoze_eq]
  rfl

@[simp] theorem controlRegs_enterRequestedDoze : s.enterRequestedDoze.controlRegs = s.controlRegs := by
  unfold State.enterRequestedDoze
  split <;> simp

@[simp] theorem controlRegs_moveSeq (q : SeqState) : (s.moveSeq q).controlRegs = s.controlRegs := by
  unfold State.moveSeq
  split <;> rfl

@[simp] theorem controlRegs_enterQuiesced : s.enterQuiesced.controlRegs = s.controlRegs := by
  simp [State.enterQuiesced]

@[simp] theorem controlRegs_settleSeq : s.settleSeq.controlRegs = s.controlRegs := by
  unfold State.settleSeq
  split <;> simp

@[simp] theorem controlRegs_moveThrough (transitional stable : SeqState) :
    (s.moveThrough transitional stable).controlRegs = s.controlRegs := by
  unfold State.moveThrough
  split <;> simp

/-! ### The memory engine -/

@[simp] theorem controlRegs_issue (point : VisitPoint) (request : MemRequest) (addr : Word) (access : AccessKind) :
    (s.issue v point request addr access).controlRegs = s.controlRegs := rfl

@[simp] theorem controlRegs_recordFault (t : Txn) (cause : FaultCause) :
    (s.recordFault t cause).controlRegs = s.controlRegs := rfl

@[simp] theorem controlRegs_freeEngine : s.freeEngine.controlRegs = s.controlRegs := rfl

@[simp] theorem controlRegs_applyLineReset (n : LineNo) : (s.applyLineReset n).controlRegs = s.controlRegs := rfl

/-! ### Resets -/

/-- A pin reset clears the registers (Table 43). -/
theorem controlRegs_pinReset : s.pinReset.controlRegs = State.reset.controlRegs := rfl

/-- A HOST_RESET clears the registers (Table 43). -/
theorem controlRegs_hostReset : s.hostReset.controlRegs = State.reset.controlRegs := rfl

/-! ### The end of a visit, closes and fetches -/

@[simp] theorem controlRegs_endVisit : (endVisit s v).controlRegs = s.controlRegs := by
  unfold endVisit
  rw [controlRegs_enterRequestedDoze, controlRegs_settleSeq]
  split <;> rfl

@[simp] theorem controlRegs_beginClose (dir : Dir) (order : Word) (length : Option Word) :
    (beginClose s v dir order length).controlRegs = s.controlRegs := by
  cases length <;> rfl

@[simp] theorem controlRegs_closeRx (o : RxOrder) (code : BitVec 5) (datum : Byte) :
    (closeRx s v o code datum).controlRegs = s.controlRegs := by
  simp [closeRx]

@[simp] theorem controlRegs_closeTx (o : TxOrder) (code : BitVec 5) (datum : Byte) :
    (closeTx s v o code datum).controlRegs = s.controlRegs := by
  simp [closeTx]

@[simp] theorem controlRegs_issueFetch (dir : Dir) (cancel : Bool) :
    (issueFetch s v dir cancel).controlRegs = s.controlRegs := rfl

@[simp] theorem controlRegs_issueParameter (dir : Dir) (point : VisitPoint) (offset : Nat) :
    (issueParameter s v dir point offset).controlRegs = s.controlRegs := rfl

/-! ### The TX step -/

@[simp] theorem controlRegs_applyOrderSetting (o : TxOrder) :
    (applyOrderSetting s v o).controlRegs = s.controlRegs := by
  unfold applyOrderSetting
  split <;> simp

/-- A load, a break start, a setting, or nothing. -/
@[simp] theorem controlRegs_txAdvance (o : TxOrder) : (txAdvance s v o).controlRegs = s.controlRegs := by
  unfold txAdvance
  split <;> split <;> simp [loadSingle, issueLoad, startBreak]

@[simp] theorem controlRegs_txMode (o : TxOrder) : (txMode s v o).controlRegs = s.controlRegs := by
  unfold txMode
  split_ifs <;> simp [holdTimeout]

@[simp] theorem controlRegs_txStep : (txStep s v).controlRegs = s.controlRegs := by
  unfold txStep
  split <;> split_ifs <;> simp [cancelTx]

@[simp] theorem controlRegs_afterStep (dir : Dir) : (afterStep s v dir).controlRegs = s.controlRegs := by
  cases dir <;> simp [afterStep]

/-! ### The RX step -/

@[simp] theorem controlRegs_rxIdleTest : (rxIdleTest s v).controlRegs = s.controlRegs := by
  unfold rxIdleTest
  split
  · simp
  · split_ifs <;> simp

@[simp] theorem controlRegs_popHead : (popHead s v).controlRegs = s.controlRegs := rfl

@[simp] theorem controlRegs_setRxOrder (o : RxOrder) : (setRxOrder s v o).controlRegs = s.controlRegs := rfl

@[simp] theorem controlRegs_issueStore (o : RxOrder) (quota : Nat) (value : Byte) :
    (issueStore s v o quota value).controlRegs = s.controlRegs := rfl

@[simp] theorem controlRegs_rxEntries (quota : Nat) : (rxEntries quota s v).controlRegs = s.controlRegs := by
  induction quota generalizing s with
  | zero => simp [rxEntries]
  | succ q ih =>
    unfold rxEntries
    split
    · split <;> (repeat' split) <;> simp [ih]
    · simp

@[simp] theorem controlRegs_rxMode (o : RxOrder) : (rxMode s v o).controlRegs = s.controlRegs := by
  unfold rxMode
  split <;> simp

@[simp] theorem controlRegs_rxStep : (rxStep s v).controlRegs = s.controlRegs := by
  unfold rxStep
  split <;> split_ifs <;> simp [cancelRx]

/-! ### Beginning a visit -/

@[simp] theorem controlRegs_statusStep (n : LineNo) : (statusStep s n).controlRegs = s.controlRegs := by
  unfold statusStep
  split <;> simp

@[simp] theorem controlRegs_beginVisit (n : LineNo) : (beginVisit s n).controlRegs = s.controlRegs := by
  rw [beginVisit, controlRegs_rxStep, controlRegs_statusStep]
  rfl

@[simp] theorem controlRegs_nextVisit : (nextVisit s).controlRegs = s.controlRegs := by
  unfold nextVisit
  split
  · split <;> simp
  · rfl

/-! ### Fetched words -/

@[simp] theorem controlRegs_reject (dir : Dir) (order : Word) (reason : Byte) :
    (reject s v dir order reason).controlRegs = s.controlRegs := by
  simp [reject]

@[simp] theorem controlRegs_acceptRx (o : RxOrder) : (acceptRx s v o).controlRegs = s.controlRegs := by
  simp [acceptRx]

@[simp] theorem controlRegs_acceptTx (o : TxOrder) : (acceptTx s v o).controlRegs = s.controlRegs := by
  simp [acceptTx]

@[simp] theorem controlRegs_fetchedCancel (dir : Dir) (order : Word) :
    (fetchedCancel s v dir order).controlRegs = s.controlRegs := by
  unfold fetchedCancel
  split <;> simp

@[simp] theorem controlRegs_fetchedRx (order : Word) : (fetchedRx s v order).controlRegs = s.controlRegs := by
  unfold fetchedRx
  split <;> simp

@[simp] theorem controlRegs_fetchedTx (order : Word) : (fetchedTx s v order).controlRegs = s.controlRegs := by
  unfold fetchedTx
  split <;> simp

@[simp] theorem controlRegs_fetchedOrder (dir : Dir) (order : Word) :
    (fetchedOrder s v dir order).controlRegs = s.controlRegs := by
  unfold fetchedOrder
  split
  · cases dir <;> simp
  · simp

@[simp] theorem controlRegs_fetchedLength (dir : Dir) (order address length : Word) :
    (fetchedLength s v dir order address length).controlRegs = s.controlRegs := by
  unfold fetchedLength
  split
  · simp
  · cases dir <;> simp

@[simp] theorem controlRegs_fetchedSetting (order setting : Word) :
    (fetchedSetting s v order setting).controlRegs = s.controlRegs := by
  unfold fetchedSetting
  split <;> simp

@[simp] theorem controlRegs_fetchedFrame (order setting frame : Word) :
    (fetchedFrame s v order setting frame).controlRegs = s.controlRegs := by
  unfold fetchedFrame
  split <;> simp

@[simp] theorem controlRegs_wordArrived (w : Word) : (wordArrived s v w).controlRegs = s.controlRegs := by
  unfold wordArrived
  split <;> simp

/-! ### Writebacks, buffer bytes and faults -/

@[simp] theorem controlRegs_offerEnd (dir : Dir) (n : LineNo) (order : Word) :
    (s.offerEnd dir n order).controlRegs = s.controlRegs := by
  unfold State.offerEnd
  split <;> simp

@[simp] theorem controlRegs_wordWritten : (wordWritten s v).controlRegs = s.controlRegs := by
  unfold wordWritten
  split <;> simp [issueOrderWrite, closeEnds]

@[simp] theorem controlRegs_storedBlock (o : RxOrder) (quota : Nat) (value : Byte) (overrun : Bool)
    (classes : BitVec 4) : (storedBlock s v o quota value overrun classes).controlRegs = s.controlRegs := by
  unfold storedBlock
  dsimp only
  split <;> split_ifs <;> simp

@[simp] theorem controlRegs_byteStored (quota : Nat) : (byteStored s v quota).controlRegs = s.controlRegs := by
  unfold byteStored
  dsimp only
  split
  · split <;> simp [countStored]
  · simp

@[simp] theorem controlRegs_byteLoaded (b : Byte) : (byteLoaded s v b).controlRegs = s.controlRegs := by
  unfold byteLoaded
  dsimp only
  split
  · simp
  · split_ifs <;> simp

@[simp] theorem controlRegs_rxBufferFault : (rxBufferFault s v).controlRegs = s.controlRegs := by
  unfold rxBufferFault
  split <;> simp

@[simp] theorem controlRegs_txBufferFault : (txBufferFault s v).controlRegs = s.controlRegs := by
  unfold txBufferFault
  split <;> simp

@[simp] theorem controlRegs_txnFault (t : Txn) (cause : FaultCause) :
    (txnFault s v t cause).controlRegs = s.controlRegs := by
  unfold txnFault
  split <;> simp [lineFault]

/-! ### Answers -/

@[simp] theorem controlRegs_answerWordRead (tag : Nat) (a : WordAnswer) :
    (answerWordRead s tag a).controlRegs = s.controlRegs := by
  unfold answerWordRead
  split
  · split <;> simp
  · rfl

@[simp] theorem controlRegs_answerWordWrite (tag : Nat) (a : WriteAnswer) :
    (answerWordWrite s tag a).controlRegs = s.controlRegs := by
  unfold answerWordWrite
  split
  · split <;> simp
  · rfl

@[simp] theorem controlRegs_answerByteWrite (tag : Nat) (a : WriteAnswer) :
    (answerByteWrite s tag a).controlRegs = s.controlRegs := by
  unfold answerByteWrite
  split
  · split <;> simp
  · rfl

@[simp] theorem controlRegs_answerByteRead (tag : Nat) (a : ByteAnswer) :
    (answerByteRead s tag a).controlRegs = s.controlRegs := by
  unfold answerByteRead
  split
  · split <;> simp
  · rfl

@[simp] theorem controlRegs_timeOut : (timeOut s).controlRegs = s.controlRegs := by
  unfold timeOut
  split <;> simp

/-! ### What falls due at an instant -/

@[simp] theorem controlRegs_expireHolds : s.expireHolds.controlRegs = s.controlRegs := by
  unfold State.expireHolds
  split <;> simp

@[simp] theorem controlRegs_expireHold (n : LineNo) : (s.expireHold n).controlRegs = s.controlRegs := rfl

@[simp] theorem controlRegs_expireTimeout : s.expireTimeout.controlRegs = s.controlRegs := by
  unfold State.expireTimeout
  split <;> simp

@[simp] theorem controlRegs_expireTick : s.expireTick.controlRegs = s.controlRegs := by
  unfold State.expireTick
  split <;> rfl

@[simp] theorem controlRegs_expireResweep : s.expireResweep.controlRegs = s.controlRegs := by
  unfold State.expireResweep
  split
  · exact controlRegs_onLines s fun _ l => l.resweep
  · rfl

/-- The guard's expiry stops its counter and leaves it armed (R166). -/
@[simp] theorem controlRegs_guardExpires : s.guardExpires.controlRegs = s.controlRegs := by
  have hquiesce : ∀ u : State, u.quiesceSeq.controlRegs = u.controlRegs := fun u => by
    unfold State.quiesceSeq
    split <;> simp
  rw [State.guardExpires, hquiesce, controlRegs_endDoze, controlRegs_offer]
  rfl

@[simp] theorem controlRegs_expireGuard : s.expireGuard.controlRegs = s.controlRegs := by
  unfold State.expireGuard
  split <;> simp

@[simp] theorem controlRegs_enterAutoDoze : s.enterAutoDoze.controlRegs = s.controlRegs := by
  unfold State.enterAutoDoze
  split <;> simp

@[simp] theorem controlRegs_enterStandby : s.enterStandby.controlRegs = s.controlRegs := by
  unfold State.enterStandby
  split
  · exact controlRegs_onLines s fun _ l => l.freeze
  · rfl

@[simp] theorem controlRegs_finishVisit : s.finishVisit.controlRegs = s.controlRegs := by
  simp [State.finishVisit]

@[simp] theorem controlRegs_finishGuard : s.finishGuard.controlRegs = s.controlRegs := by
  simp [State.finishGuard]

@[simp] theorem controlRegs_finishTimers : s.finishTimers.controlRegs = s.controlRegs := by
  simp [State.finishTimers]

@[simp] theorem controlRegs_watchIdle : s.watchIdle.controlRegs = s.controlRegs := by
  rw [State.watchIdle_eq]
  rfl

@[simp] theorem controlRegs_endInstant : s.endInstant.controlRegs = s.controlRegs := by
  have hcounts : ∀ u : State, u.closeCounts.controlRegs = u.controlRegs := fun u => by
    unfold State.closeCounts
    split <;> simp
  exact (hcounts s.watchIdle).trans (controlRegs_watchIdle s)

@[simp] theorem controlRegs_finishInstant : s.finishInstant.controlRegs = s.controlRegs := by
  simp [State.finishInstant]

@[simp] theorem controlRegs_beforeAnswer (tag : Nat) : (s.beforeAnswer tag).controlRegs = s.controlRegs := by
  unfold State.beforeAnswer
  split <;> simp

@[simp] theorem controlRegs_visitNow : (visitNow s).controlRegs = s.controlRegs := by
  unfold visitNow
  split
  · split <;> simp
  · simp

@[simp] theorem controlRegs_beat (sense : BitVec 16) : (s.beat sense).controlRegs = s.controlRegs := by
  have hcount : (s.countBeat sense).controlRegs = s.controlRegs :=
    controlRegs_onLines s fun n l => l.beat s (sense.getLsbD n.val)
  unfold State.beat
  split_ifs
  · exact (controlRegs_endDoze (s.countBeat sense)).trans hcount
  · exact hcount
  · rfl

/-! ### Reads and writes of the window -/

@[simp] theorem controlRegs_readRegister (lanes : Lanes) (r : Reg) :
    (s.readRegister lanes r).controlRegs = s.controlRegs := by
  have htake : s.takeEvent.controlRegs = s.controlRegs := by
    unfold State.takeEvent
    split
    · rfl
    · split <;> rfl
  have heffect : (s.readEffect r).controlRegs = s.controlRegs := by
    cases r with
    | eventTake => exact htake
    | conData | conStatus => exact (apply_ite State.controlRegs _ _ _).trans (ite_self _)
    | _ => rfl
  exact heffect

variable {s} in
/-- A command that ends a doze leaves the registers alone where what follows does. -/
theorem controlRegs_commanded {f : State → State} (hf : ∀ u, (f u).controlRegs = u.controlRegs) :
    (s.commanded f).controlRegs = s.controlRegs :=
  controlRegs_gated fun u => (hf u.endDoze).trans (controlRegs_endDoze u)

@[simp] theorem controlRegs_start : s.start.controlRegs = s.controlRegs := by
  unfold State.start
  split <;> simp

@[simp] theorem controlRegs_stop : s.stop.controlRegs = s.controlRegs := by
  unfold State.stop
  split <;> simp

@[simp] theorem controlRegs_pause : s.pause.controlRegs = s.controlRegs := by
  unfold State.pause
  split <;> simp

@[simp] theorem controlRegs_resume : s.resume.controlRegs = s.controlRegs := by
  unfold State.resume
  split <;> simp

@[simp] theorem controlRegs_resetLineCmd (n : LineNo) : (s.resetLineCmd n).controlRegs = s.controlRegs := by
  unfold State.resetLineCmd
  split
  · split
    · rfl
    · simp
  · simp

@[simp] theorem controlRegs_ring (value : Word) : (s.ring value).controlRegs = s.controlRegs := by
  unfold State.ring
  split <;> simp

@[simp] theorem controlRegs_storeReq (req : PowerReq) (auto : Bool) :
    (s.storeReq req auto).controlRegs = s.controlRegs := rfl

@[simp] theorem controlRegs_reqActive (auto : Bool) : (s.reqActive auto).controlRegs = s.controlRegs := by
  unfold State.reqActive
  split
  · simp
  · simp
  · simp
  · rfl
  · rfl

@[simp] theorem controlRegs_reqDoze (auto : Bool) : (s.reqDoze auto).controlRegs = s.controlRegs := by
  unfold State.reqDoze
  split <;> simp

@[simp] theorem controlRegs_reqStandby (auto : Bool) : (s.reqStandby auto).controlRegs = s.controlRegs := by
  have haccepted : ({ s.endDoze.storeReq .standby auto with power := .standbyEntry } : State).controlRegs =
      s.controlRegs := controlRegs_endDoze s
  have hmay : (if s.mayStandby then { s.endDoze.storeReq .standby auto with power := .standbyEntry }
      else s.endDoze.refuseWrite : State).controlRegs = s.controlRegs := by
    split
    · exact haccepted
    · simp
  unfold State.reqStandby
  split
  · exact hmay
  · exact hmay
  · rfl
  · rfl
  · rfl

@[simp] theorem controlRegs_writeKeepalive (value : Word) : (s.writeKeepalive value).controlRegs = s.controlRegs :=
  controlRegs_gated fun u => by
    rw [State.key_eq]
    rfl

@[simp] theorem controlRegs_putLine (n : LineNo) (l : Line) : (s.putLine n l).controlRegs = s.controlRegs := by
  unfold State.putLine
  split <;> simp

@[simp] theorem controlRegs_writeTableBase (value : Word) : (s.writeTableBase value).controlRegs = s.controlRegs :=
  controlRegs_gated fun u => by
    split <;> rfl

@[simp] theorem controlRegs_writeCustomDivisor (value : Word) :
    (s.writeCustomDivisor value).controlRegs = s.controlRegs := controlRegs_gated fun _ => rfl

@[simp] theorem controlRegs_writeCadence (value : Word) : (s.writeCadence value).controlRegs = s.controlRegs :=
  controlRegs_gated fun _ => rfl

@[simp] theorem controlRegs_writeResweep (value : Word) : (s.writeResweep value).controlRegs = s.controlRegs :=
  controlRegs_gated fun _ => rfl

@[simp] theorem controlRegs_writeCoalesce (value : Word) : (s.writeCoalesce value).controlRegs = s.controlRegs :=
  controlRegs_gated fun _ => rfl

@[simp] theorem controlRegs_writeClassData (value : Word) :
    (s.writeClassData value).controlRegs = s.controlRegs := controlRegs_gated fun _ => rfl

@[simp] theorem controlRegs_writeLineSetting (value : Word) :
    (s.writeLineSetting value).controlRegs = s.controlRegs :=
  controlRegs_gated fun u => by
    split <;> simp

@[simp] theorem controlRegs_writeLineFrame (value : Word) : (s.writeLineFrame value).controlRegs = s.controlRegs :=
  controlRegs_gated fun u => by
    split <;> simp

@[simp] theorem controlRegs_writeConData (value : Word) : (s.writeConData value).controlRegs = s.controlRegs :=
  controlRegs_gated fun u => by
    unfold State.conWrite
    split_ifs <;> rfl

/-! ### Instants of a line and raw edges -/

@[simp] theorem controlRegs_atLine (n : LineNo) (f : Line → Line) : (s.atLine n f).controlRegs = s.controlRegs := by
  unfold State.atLine
  split <;> simp

@[simp] theorem controlRegs_completeAt (n : LineNo) (data : Byte) (parityBit stopBit : Bool) :
    (s.completeAt n data parityBit stopBit).controlRegs = s.controlRegs := by
  unfold State.completeAt
  split <;> simp

@[simp] theorem controlRegs_idleAt (n : LineNo) : (s.idleAt n).controlRegs = s.controlRegs := by
  unfold State.idleAt
  split <;> simp

@[simp] theorem controlRegs_wakeEdges (starts senses : BitVec 16) :
    (s.wakeEdges starts senses).controlRegs = s.controlRegs := by
  unfold State.wakeEdges
  split <;> rfl

/-! ### Commands -/

variable {s} {t : State} {f : State → State}

theorem controlRegs_of_command (hf : ∀ u, (f u).controlRegs = u.controlRegs) (h : command f s = .next t) :
    t.controlRegs = s.controlRegs := by
  cases h
  rw [controlRegs_watchIdle, hf, controlRegs_finishInstant]

theorem controlRegs_of_expiry (hf : ∀ u, (f u).controlRegs = u.controlRegs) (h : expiry f s = .next t) :
    t.controlRegs = s.controlRegs := by
  cases h
  rw [controlRegs_watchIdle, hf]

theorem controlRegs_of_answered {tag : Nat} (hf : ∀ u, (f u).controlRegs = u.controlRegs)
    (h : answered tag f s = .next t) : t.controlRegs = s.controlRegs := by
  cases h
  rw [controlRegs_watchIdle, hf, controlRegs_beforeAnswer]

/-- No command but the writes of CONTROL and LIVENESS_PERIOD and what may perform a reset changes the two registers
(R164, R175). -/
theorem controlRegs_of_leavesControl {c : Instr} (hc : c.leavesControl = true) (h : exec c s = .next t) :
    t.controlRegs = s.controlRegs := by
  cases c with
  | control | livenessPeriod | registerWrite | hostReset | pinReset | wakingEnd => simp [Instr.leavesControl] at hc
  | start | stop | pause | resume | cancelRx | cancelTx | resetLine | doorbell =>
    simp only [exec_start, exec_stop, exec_pause, exec_resume, exec_cancelRx, exec_cancelTx, exec_resetLine,
      exec_doorbell] at h
    exact controlRegs_of_command
      (fun u => controlRegs_commanded fun w => by simp [State.markCancelRx, State.markCancelTx]) h
  | reqActive | reqDoze | reqStandby =>
    simp only [exec_reqActive, exec_reqDoze, exec_reqStandby] at h
    exact controlRegs_of_command (fun u => by simp) h
  | keepalive | tableBase | lineSetting | lineFrame | customDivisor | cadence | resweep | coalesce | classDataWrite
  | conDataWrite =>
    simp only [exec_keepalive, exec_tableBase, exec_lineSetting, exec_lineFrame, exec_customDivisor, exec_cadence,
      exec_resweep, exec_coalesce, exec_classDataWrite, exec_conDataWrite] at h
    exact controlRegs_of_command (fun u => by simp) h
  | classDataRead | conDataRead | conStatus | eventTake | eventLevel | status =>
    simp only [exec_classDataRead, exec_conDataRead, exec_conStatus, exec_eventTake, exec_eventLevel, exec_status] at h
    exact controlRegs_of_command (fun u => controlRegs_readRegister u _ _) h
  | wordRead | wordWrite | byteWrite | byteRead =>
    simp only [exec_wordRead, exec_wordWrite, exec_byteWrite, exec_byteRead] at h
    exact controlRegs_of_answered (fun u => by simp) h
  | completion | breakSeen | recoverEnd | shifterEmpty | breakDone | idleDue | fallingEdge | startBitSample =>
    simp only [exec_completion, exec_breakSeen, exec_recoverEnd, exec_shifterEmpty, exec_breakDone, exec_idleDue,
      exec_fallingEdge, exec_startBitSample] at h
    exact controlRegs_of_command (fun u => by simp) h
  | beatBoundary sense =>
    rw [exec_beatBoundary] at h
    exact controlRegs_of_command (fun u => controlRegs_beat u sense) h
  | wakeEdge starts senses =>
    rw [exec_wakeEdge] at h
    exact controlRegs_of_command (fun u => controlRegs_wakeEdges u starts senses) h
  | visit | timeout | resweepExpiry | tick | holdDue | guardExpiry | automaticDoze | standby =>
    simp only [exec_visit, exec_timeout, exec_resweepExpiry, exec_tick, exec_holdDue, exec_guardExpiry,
      exec_automaticDoze, exec_standby] at h
    exact controlRegs_of_expiry (fun u => by simp) h

end Sys2Proof.Machine
end

section
/-! A whole-word write of CONTROL (R175): the enables it stores, the guard it arms, and the pin it moves. -/

namespace Sys2Proof.Machine

variable {s t u : State}

/-- What a CONTROL value that passes the gate does: it stores the enables, and with bit 8 set it arms an unarmed guard
with its counter loaded (R164, R175). -/
def State.takeControl (s : State) (value : Word) : State :=
  { s with
    eventIe := value.getLsbD 0
    tickIe := value.getLsbD 1
    conRxIe := value.getLsbD 2
    conTxIe := value.getLsbD 3
    alertIe := value.getLsbD 4
    livenessEn := s.livenessEn || value.getLsbD 8
    guardRunning := s.guardRunning || (value.getLsbD 8 && !s.livenessEn)
    guardCount := if value.getLsbD 8 && !s.livenessEn then max 1 s.livenessPeriod.toNat else s.guardCount }

/-- A CONTROL write is `State.takeControl` behind the power-state gate. -/
theorem State.writeControl_eq (s : State) (value : Word) :
    s.writeControl value = s.gated fun u => u.takeControl value := by
  unfold State.writeControl
  congr 1
  funext u
  cases harmed : u.livenessEn <;> cases hbit : value[8] <;>
    simp [State.takeControl, State.arm, State.storeEnables, State.guardPeriod_eq, bitAt, harmed, hbit]

/-- On an open part a whole-word CONTROL write takes its effect. -/
theorem leads_control (hopen : s.open = true) (value : Word) :
    Leads (exec (.control value) s) (s.takeControl value) := by
  simp only [exec_control, State.writeControl_eq]
  exact leads_gated_of_open hopen

/-- In STANDBY and WAKING it is refused (R161, R163). -/
theorem leads_control_of_shut (hsettled : s.settled = true) (hshut : s.windowShut = true) (value : Word) :
    Leads (exec (.control value) s) s.refuseWrite := by
  simp only [exec_control, State.writeControl_eq]
  exact leads_gated_of_shut hsettled hshut

/-- The idle watch does not show on the IRQ pin. -/
theorem State.irq_of_agrees (h : t.agrees u) : t.irq = u.irq := by
  obtain ⟨hfields, -⟩ := h
  generalize t.idleBeats = k at hfields
  subst hfields
  rfl

/-- The stored enables act on IRQ at once, each on its own condition (R140, R175). -/
theorem State.takeControl_irq (s : State) (value : Word) : (s.takeControl value).irq =
    ((value.getLsbD 0 && s.eventCondition) || (value.getLsbD 1 && s.tick) || (value.getLsbD 2 && s.conRxReady) ||
      (value.getLsbD 3 && s.conTxReady) || (value.getLsbD 4 && s.alertLiveness)) := rfl

/-! ### The statement -/

/-- Settles O13: behind the gate the write is `State.takeControl`, and every command that `controlRegs_of_leavesControl`
covers leaves the fields that CONTROL shows. -/
theorem controlStoresEnablesAndArms : Obligations.ControlStoresEnablesAndArms := by
  unfold Obligations.ControlStoresEnablesAndArms
  refine ⟨fun v s hopen => leads_control hopen v, fun v s hopen => ?_,
    fun v s hsettled hshut => leads_control_of_shut hsettled hshut v, fun s => ⟨rfl, s.controlWord_eq⟩,
    fun s => ⟨State.controlWord_of_controlRegs (controlRegs_pinReset s),
      State.controlWord_of_controlRegs (controlRegs_hostReset s)⟩, fun c s t hc hexec => ?_⟩
  · obtain ⟨t, hnext, hagrees⟩ := leads_control hopen v
    exact ⟨t, hnext, (State.irq_of_agrees hagrees).trans (s.takeControl_irq v)⟩
  · exact State.controlWord_of_controlRegs (controlRegs_of_leavesControl hc hexec)

end Sys2Proof.Machine
end

section
/-! The invariant of a line unit in four parts (R52, R57, R61, R107, R108, R114, R121), and that every operation of a
line keeps it. -/

namespace Sys2Proof.Machine

variable {s : State} {l : Line} {f : Format}

/-! ### The four parts -/

/-- The receive queue, the framed receive machine and the in-band hold flag (R52, R103, R107, R108, R114, R116). -/
def Line.receiveOk (l : Line) : Prop :=
  l.queue.length ≤ Config.queueCapacity ∧ (∀ e ∈ l.queue, e.fits l.framed = true) ∧ l.pacingOk = true ∧
    l.tailOk = true ∧ l.frameBytes ≤ 3 ∧ (l.framed = true ∨ setInband l.setting = false → l.inbandHold = false) ∧
    l.framesDropped ≤ 255

/-- The record of SENSE changes (R57). -/
def Line.reportOk (l : Line) : Prop :=
  l.changeCount ≤ 255 ∧ (l.statusPending = true ↔ 0 < l.changeCount) ∧ l.countOk = true

/-- IDLE_DUE stands only over a stopped idle-gap timer (R61). -/
def Line.idleOk (l : Line) : Prop := l.idleStarted = true → l.idleDue = false

/-- Holding and the shifter with its framing phase (R54, R121). -/
def Line.sendOk (l : Line) : Prop := (l.ownByte = true → l.holding.isSome = true) ∧ l.phaseOk = true

/-- The invariant of a line unit, part by part. -/
structure Line.Sound (l : Line) : Prop where
  receive : l.receiveOk
  report : l.reportOk
  idle : l.idleOk
  send : l.sendOk

theorem Line.unitOk_iff_sound : l.unitOk ↔ l.Sound := by
  constructor
  · rintro ⟨hcap, hfit, hpace, htail, hbytes, hinband, hcount, hpend, hdrop, hown, hidle, hphase, hopen⟩
    exact ⟨⟨hcap, hfit, hpace, htail, hbytes, hinband, hdrop⟩, ⟨hcount, hpend, hopen⟩, hidle, hown, hphase⟩
  · rintro ⟨⟨hcap, hfit, hpace, htail, hbytes, hinband, hdrop⟩, ⟨hcount, hpend, hopen⟩, hidle, hown, hphase⟩
    exact ⟨hcap, hfit, hpace, htail, hbytes, hinband, hcount, hpend, hdrop, hown, hidle, hphase, hopen⟩

/-- A line in its reset state is sound. -/
theorem Line.reset_sound : Line.reset.Sound :=
  Line.unitOk_iff_sound.1 (by decide)

/-! ### The transmitter -/

/-- The phases between frames: those a free shifter can have (Table 31). -/
def TxPhase.rests (p : TxPhase) : Prop := p = .idle ∨ p = .payload

/-- With a free shifter the invariant asks for a resting phase. -/
theorem Line.phaseOk_of_free (h : ∀ t, l.shifter ≠ .sending t) : l.phaseOk = true ↔ l.txPhase.rests := by
  unfold Line.phaseOk TxPhase.rests
  split
  · next t ht => exact absurd ht (h t)
  all_goals simp

/-- An abort pair is sent in phase ABORT (R122). -/
theorem Line.sendAbort_sendOk (h : l.sendOk) : (l.sendAbort f).sendOk := ⟨h.1, rfl⟩

/-- A raw character is sent in a resting phase (R55). -/
theorem Line.sendCharacter_sendOk (h : Holding) (hp : l.txPhase.rests) : (l.sendCharacter f h).sendOk := by
  refine ⟨fun hown => absurd hown (by simp [Line.sendCharacter_eq]), ?_⟩
  rcases hp with hp | hp <;> simp [Line.sendCharacter_eq, Line.phaseOk, Line.starting, hp]

/-- A payload byte is sent in the phase of its first piece (R121). -/
theorem Line.sendPayload_sendOk (h : Holding) : (l.sendPayload f h).sendOk := by
  cases hf : h.first with
  | true =>
    rw [Line.sendPayload_first _ _ hf]
    exact ⟨fun hown => absurd hown (by simp), rfl⟩
  | false =>
    rw [Line.sendPayload_next _ _ hf]
    refine ⟨fun hown => absurd hown (by simp), ?_⟩
    dsimp only [Line.phaseOk, Line.starting]
    split_ifs <;> rfl

/-- What the transmitter leaves unchanged when it fills its shifter. -/
theorem Line.feedShifter_eq (s : State) (l : Line) :
    l.feedShifter s =
      { l with
        holding := (l.feedShifter s).holding
        ownByte := (l.feedShifter s).ownByte
        abortPending := (l.feedShifter s).abortPending
        underrunDue := (l.feedShifter s).underrunDue
        txPhase := (l.feedShifter s).txPhase
        txCrc := (l.feedShifter s).txCrc
        shifter := (l.feedShifter s).shifter } := by
  unfold Line.feedShifter
  split_ifs
  · rfl
  · rfl
  · rfl
  · split
    · rfl
    · split
      · next h _ _ => cases hf : h.first <;> simp only [Line.sendPayload_first, Line.sendPayload_next, hf]
      · rfl

/-- What tending a line leaves unchanged. -/
theorem Line.tend_eq (s : State) (l : Line) :
    Line.tend s l =
      { l with
        holding := (Line.tend s l).holding
        ownByte := (Line.tend s l).ownByte
        abortPending := (Line.tend s l).abortPending
        underrunDue := (Line.tend s l).underrunDue
        txPhase := (Line.tend s l).txPhase
        txCrc := (Line.tend s l).txCrc
        shifter := (Line.tend s l).shifter
        holdCount := (Line.tend s l).holdCount
        holdStopped := (Line.tend s l).holdStopped } := by
  rw [Line.tend, Line.tendHoldTimer_eq, Line.feedShifter_eq]

theorem Line.feedShifter_sendOk (h : l.sendOk) : (l.feedShifter s).sendOk := by
  unfold Line.feedShifter
  by_cases hbusy : l.shifter ≠ .empty ∨ l.inHold = true
  · rwa [if_pos hbusy]
  · have hempty : l.shifter = .empty := by
      by_contra hne
      exact hbusy (.inl hne)
    have hrests : l.txPhase.rests := (Line.phaseOk_of_free fun t => by simp [hempty]).1 h.2
    rw [if_neg hbusy]
    split_ifs
    · exact Line.sendAbort_sendOk h
    · exact Line.sendAbort_sendOk (l := l) (f := s.formatOf l) h
    · split
      · exact h
      · split
        · exact Line.sendPayload_sendOk _
        · exact Line.sendCharacter_sendOk _ hrests

theorem Line.tend_sound (h : l.Sound) : (Line.tend s l).Sound := by
  have hsend : (Line.tend s l).sendOk := by
    rw [Line.tend, Line.tendHoldTimer_eq]
    exact Line.feedShifter_sendOk h.send
  refine ⟨?_, ?_, ?_, hsend⟩ <;> rw [Line.tend_eq]
  · exact h.receive
  · exact h.report
  · exact h.idle

theorem Line.shifterEnds_sound (h : l.Sound) : (l.shifterEnds s).Sound := by
  obtain ⟨hrx, hrep, hidle, hown, hphase⟩ := h
  unfold Line.shifterEnds
  split
  · next t ht =>
    have hrests : (l.phaseAfter t.what (s.seq == .quiesced)).rests := by
      unfold Line.phaseAfter
      split
      · exact .inl rfl
      · split
        · next hw =>
          simp only [Line.phaseOk, ht, hw, Bool.and_eq_true, Bool.or_eq_true, beq_iff_eq] at hphase
          exact hphase.2
        all_goals simp [TxPhase.rests]
    exact Line.tend_sound ⟨hrx, hrep, hidle, hown, (Line.phaseOk_of_free fun t => by simp).2 hrests⟩
  · next ht =>
    refine Line.tend_sound ⟨hrx, hrep, hidle, hown, (Line.phaseOk_of_free fun t => by simp).2 ?_⟩
    exact (Line.phaseOk_of_free (l := l) fun t => by simp [ht]).1 hphase
  · exact ⟨hrx, hrep, hidle, hown, hphase⟩
  · exact ⟨hrx, hrep, hidle, hown, hphase⟩

theorem Line.breakEnds_sound (h : l.Sound) : l.breakEnds.Sound := by
  obtain ⟨hrx, hrep, hidle, hown, hphase⟩ := h
  unfold Line.breakEnds
  split
  · next ht =>
    refine ⟨hrx, hrep, hidle, hown, (Line.phaseOk_of_free fun t => by simp).2 ?_⟩
    exact (Line.phaseOk_of_free (l := l) fun t => by simp [ht]).1 hphase
  all_goals exact ⟨hrx, hrep, hidle, hown, hphase⟩

/-- The next piece of what is being sent keeps the phase within Table 31: nothing follows a raw character, a piece of a
frame has a phase of the frame, and only characters as they are follow in an abort pair. -/
theorem Line.sendPieces_phaseOk {t : Transmission} (g : Format) (ht : l.shifter = .sending t) (h : l.phaseOk = true) :
    (l.sendPieces t.what g t.rest).phaseOk = true := by
  cases hr : t.rest with
  | nil => exact h
  | cons p rest =>
    simp only [Line.phaseOk, ht] at h
    cases hw : t.what with
    | character => simp [hw, hr] at h
    | frame last =>
      simp only [hw, Bool.and_eq_true, bne_iff_ne, ne_eq] at h
      cases p <;> simp_all [Line.sendPieces, Line.phaseOk, piecePhase]
    | abortPair =>
      cases p <;> simp_all [Line.sendPieces, Line.phaseOk, piecePhase, Line.pieceChars, Piece.isPlain]

theorem Line.sendPieces_eq (l : Line) (what : Sending) (g : Format) (pieces : List Piece) :
    l.sendPieces what g pieces =
      { l with
        txPhase := (l.sendPieces what g pieces).txPhase
        txCrc := (l.sendPieces what g pieces).txCrc
        shifter := (l.sendPieces what g pieces).shifter } := by
  cases pieces <;> rfl

/-- The clock leaves everything of the transmitter but its shifter, phase and CRC. -/
theorem Line.clockShifter_eq (l : Line) (g : Format) :
    l.clockShifter g =
      { l with
        txPhase := (l.clockShifter g).txPhase
        txCrc := (l.clockShifter g).txCrc
        shifter := (l.clockShifter g).shifter } := by
  unfold Line.clockShifter
  split
  · split
    · rfl
    · exact Line.sendPieces_eq _ _ _ _
  all_goals rfl

theorem Line.clockShifter_sound (h : l.Sound) : (l.clockShifter f).Sound := by
  have hphase : (l.clockShifter f).phaseOk = true := by
    have h2 := h.send.2
    unfold Line.clockShifter
    split
    · next t ht =>
      split
      · simpa [Line.phaseOk, ht] using h2
      · exact Line.sendPieces_phaseOk _ ht h2
    all_goals simp_all [Line.phaseOk]
  refine ⟨?_, ?_, ?_, ?_, hphase⟩ <;> rw [Line.clockShifter_eq]
  exacts [h.receive, h.report, h.idle, h.send.1]

theorem Line.endShifter_sound (h : l.Sound) : (l.endShifter s).Sound := by
  unfold Line.endShifter
  split
  · split
    · exact Line.breakEnds_sound h
    all_goals exact Line.shifterEnds_sound h
  · exact h

theorem Line.tellEmpty_sound (h : l.Sound) : (l.tellEmpty s).Sound := by
  unfold Line.tellEmpty
  split
  exacts [Line.shifterEnds_sound h, h]

theorem Line.tellBreakDone_sound (h : l.Sound) : l.tellBreakDone.Sound := by
  unfold Line.tellBreakDone
  split
  exacts [Line.breakEnds_sound h, h]

end Sys2Proof.Machine
end

section
/-! The invariant of a line unit through the receive queue, the framed receive machine, the receiver, SENSE, the timers
and a new setting. -/

namespace Sys2Proof.Machine

variable {s : State} {l : Line} {f : Format}

/-! ### The receive queue -/

/-- The pacing flag re-evaluated against a count agrees with it (R108). -/
theorem pacingAfter_ok (flag : Bool) (count : Nat) :
    ((!decide (6 ≤ count) || !pacingAfter flag count) && (!decide (count ≤ 2) || pacingAfter flag count)) = true := by
  obtain ⟨hhigh, hlow⟩ := pacingAfter_agrees flag count
  by_cases h6 : 6 ≤ count
  · simp [h6, hhigh h6, show ¬count ≤ 2 by omega]
  · by_cases h2 : count ≤ 2 <;> simp [h6, h2, hlow]

/-- An entry that the framing admits may join a queue with room. -/
theorem Line.join_receiveOk (h : l.receiveOk) {e : Entry} (hroom : l.queue.length < 8) (he : e.fits l.framed = true) :
    (l.join e).receiveOk := by
  obtain ⟨-, hfit, -, htail, hbytes, hinband, hdrop⟩ := h
  refine ⟨?_, ?_, ?_, htail, hbytes, hinband, hdrop⟩
  · simpa [Config.queueCapacity] using hroom
  · intro x hx
    rcases List.mem_append.1 hx with hx | hx
    · exact hfit x hx
    · rw [List.mem_singleton.1 hx]
      exact he
  · simpa [Line.pacingOk, Line.join] using pacingAfter_ok l.pacing (l.queue.length + 1)

theorem Line.pop_sound (h : l.Sound) : l.pop.Sound := by
  obtain ⟨⟨hcap, hfit, hpace, htail, hbytes, hinband, hdrop⟩, hrep, hidle, hsend⟩ := h
  cases hq : l.queue with
  | nil =>
    rw [Line.pop_nil hq]
    exact ⟨⟨hcap, hfit, hpace, htail, hbytes, hinband, hdrop⟩, hrep, hidle, hsend⟩
  | cons e rest =>
    rw [Line.pop_cons hq]
    rw [hq] at hcap hfit
    refine ⟨⟨Nat.le_of_succ_le hcap, fun x hx => hfit x (List.mem_cons_of_mem _ hx), pacingAfter_ok _ _, htail, hbytes,
      hinband, hdrop⟩, hrep, hidle, hsend⟩

/-- Marking the newest entry keeps what an asynchronous line admits (R53). -/
theorem lossOnNewest_fits {q : List Entry} (h : ∀ e ∈ q, e.fits false = true) :
    ∀ e ∈ lossOnNewest q, e.fits false = true := by
  rcases List.eq_nil_or_concat q with rfl | ⟨q, x, rfl⟩
  · simp [lossOnNewest]
  · rw [List.concat_eq_append] at h ⊢
    rw [lossOnNewest_append]
    intro e he
    rcases List.mem_append.1 he with he | he
    · exact h e (List.mem_append_left _ he)
    · rw [List.mem_singleton.1 he]
      have hx := h x (by simp)
      cases x with
      | frameEnd st => exact hx
      | _ => rfl

theorem Line.joinOrLose_receiveOk (h : l.receiveOk) {e : Entry} (hasync : l.framed = false)
    (he : e.fits false = true) : (l.joinOrLose e).receiveOk := by
  rcases l.joinOrLose_cases e with ⟨hroom, heq⟩ | ⟨-, heq⟩ <;> rw [heq]
  · exact Line.join_receiveOk h hroom (hasync ▸ he)
  · obtain ⟨hcap, hfit, hpace, htail, hbytes, hinband, hdrop⟩ := h
    refine ⟨by simpa using hcap, ?_, by simpa [Line.pacingOk] using hpace, htail, hbytes, hinband, hdrop⟩
    intro x hx
    change x.fits l.framed = true
    rw [hasync] at hfit ⊢
    exact lossOnNewest_fits hfit x hx

/-! ### The framed receive machine -/

/-- A new frame has no bytes (R112). -/
theorem Line.beginFrame_receiveOk (h : l.receiveOk) : l.beginFrame.receiveOk := by
  obtain ⟨hcap, hfit, hpace, -, -, hinband, hdrop⟩ := h
  exact ⟨hcap, hfit, hpace, rfl, Nat.zero_le _, hinband, hdrop⟩

/-- A condemned frame has no tail pair (R113). -/
theorem Line.poison_receiveOk (st : FrameStatus) (h : l.receiveOk) : (l.poison st).receiveOk := by
  obtain ⟨hcap, hfit, hpace, -, hbytes, hinband, hdrop⟩ := h
  exact ⟨hcap, hfit, hpace, rfl, hbytes, hinband, hdrop⟩

theorem Line.joinFrameEnd_receiveOk (st : FrameStatus) (hframed : l.framed = true) (h : l.receiveOk) :
    (l.joinFrameEnd st).receiveOk := by
  by_cases hroom : l.queue.length < 8
  · rw [Line.joinFrameEnd_room _ hroom]
    exact Line.join_receiveOk h hroom hframed
  · rw [Line.joinFrameEnd_full _ (by omega)]
    obtain ⟨hcap, hfit, hpace, htail, hbytes, hinband, -⟩ := h
    exact ⟨hcap, hfit, hpace, htail, hbytes, hinband, Nat.min_le_left _ _⟩

theorem Line.endFrame_receiveOk (st : FrameStatus) (hframed : l.framed = true) (h : l.receiveOk) :
    (l.endFrame st).receiveOk :=
  Line.beginFrame_receiveOk (Line.joinFrameEnd_receiveOk st hframed h)

/-- A byte of an open frame joins the tail pair, whose length follows the byte count (R114). -/
theorem Line.addFrameByte_receiveOk (b : Byte)
    (hopen : l.tail.length = min 2 l.frameBytes) (h : l.receiveOk) : (l.addFrameByte b).receiveOk := by
  have hgrow {m : Nat} : min 3 (m + 1) ≤ 3 := Nat.min_le_left _ _
  rcases htail : l.tail with _ | ⟨older, _ | ⟨newer, more⟩⟩
  all_goals rw [htail] at hopen
  · obtain ⟨hcap, hfit, hpace, -, hbytes, hinband, hdrop⟩ := h
    rw [Line.addFrameByte_tail (by simp [htail])]
    simp only [List.length_nil] at hopen
    exact ⟨hcap, hfit, hpace, by simp [Line.tailOk, htail]; omega, hgrow, hinband, hdrop⟩
  · obtain ⟨hcap, hfit, hpace, -, hbytes, hinband, hdrop⟩ := h
    rw [Line.addFrameByte_tail (by simp [htail])]
    simp only [List.length_cons, List.length_nil] at hopen
    exact ⟨hcap, hfit, hpace, by simp [Line.tailOk, htail]; omega, hgrow, hinband, hdrop⟩
  · simp only [List.length_cons] at hopen
    obtain rfl : more = [] := List.eq_nil_of_length_eq_zero (by omega)
    by_cases hq : l.queue.length ≤ 6
    · rw [Line.addFrameByte_full htail hq]
      obtain ⟨hcap, hfit, hpace, -, -, hinband, hdrop⟩ :=
        Line.join_receiveOk (e := .data older false false false 0) h (by omega) (by simp [Entry.fits])
      exact ⟨hcap, hfit, hpace, by simp [Line.tailOk]; omega, hgrow, hinband, hdrop⟩
    · have hpoison : l.addFrameByte b = l.poison .overrun := by
        simp [Line.addFrameByte, htail, Config.framedDataLimit, hq]
      rw [hpoison]
      exact Line.poison_receiveOk _ h

theorem Line.receiveFramed_receiveOk (c : Completed) (hframed : l.framed = true) (h : l.receiveOk) :
    (l.receiveFramed c).receiveOk := by
  have htail := h.2.2.2.1
  have herror (st : FrameStatus) : (l.frameErrorSeen st).receiveOk := by
    unfold Line.frameErrorSeen
    split
    exacts [Line.poison_receiveOk st h, Line.poison_receiveOk st h, h, h]
  have hmark : l.frameMarkSeen.receiveOk := by
    unfold Line.frameMarkSeen
    split
    · exact Line.beginFrame_receiveOk h
    · split_ifs
      exacts [h, Line.endFrame_receiveOk _ hframed h, Line.endFrame_receiveOk _ hframed h]
    · exact Line.endFrame_receiveOk _ hframed h
    · exact Line.endFrame_receiveOk _ hframed h
  have hescape : l.frameEscapeSeen.receiveOk := by
    unfold Line.frameEscapeSeen
    split
    · next hst =>
      obtain ⟨hcap, hfit, hpace, -, hrest⟩ := h
      exact ⟨hcap, hfit, hpace, by simpa [Line.tailOk, hst] using htail, hrest⟩
    · exact Line.poison_receiveOk _ h
    all_goals exact h
  have hbyte (v : Byte) : (l.frameByteSeen v).receiveOk := by
    unfold Line.frameByteSeen
    split
    · next hst => exact Line.addFrameByte_receiveOk _ (by simpa [Line.tailOk, hst] using htail) h
    · next hst => exact Line.addFrameByte_receiveOk _ (by simpa [Line.tailOk, hst] using htail) h
    all_goals exact h
  cases c with
  | brk => exact herror _
  | char v parity framing =>
    unfold Line.receiveFramed
    dsimp only
    split_ifs
    exacts [herror _, herror _, hmark, hescape, hbyte v]

/-- What the framed receive machine leaves unchanged. -/
theorem Line.receiveFramed_eq (l : Line) (c : Completed) :
    l.receiveFramed c =
      { l with
        queue := (l.receiveFramed c).queue
        pacing := (l.receiveFramed c).pacing
        frameRx := (l.receiveFramed c).frameRx
        tail := (l.receiveFramed c).tail
        frameBytes := (l.receiveFramed c).frameBytes
        rxCrc := (l.receiveFramed c).rxCrc
        framesDropped := (l.receiveFramed c).framesDropped } := by
  have hend (st : FrameStatus) : l.joinFrameEnd st =
      { l with
        queue := (l.joinFrameEnd st).queue
        pacing := (l.joinFrameEnd st).pacing
        framesDropped := (l.joinFrameEnd st).framesDropped } := by
    unfold Line.joinFrameEnd
    split <;> rfl
  have hendFrame (st : FrameStatus) : l.endFrame st =
      { l with
        queue := (l.endFrame st).queue
        pacing := (l.endFrame st).pacing
        frameRx := (l.endFrame st).frameRx
        tail := (l.endFrame st).tail
        frameBytes := (l.endFrame st).frameBytes
        rxCrc := (l.endFrame st).rxCrc
        framesDropped := (l.endFrame st).framesDropped } := by
    rw [Line.endFrame, hend]
    rfl
  cases c with
  | brk =>
    simp only [Line.receiveFramed, Line.frameErrorSeen]
    split <;> rfl
  | char v parity framing =>
    unfold Line.receiveFramed
    dsimp only
    split_ifs
    · unfold Line.frameErrorSeen
      split <;> rfl
    · unfold Line.frameErrorSeen
      split <;> rfl
    · unfold Line.frameMarkSeen
      split
      · rfl
      · split_ifs
        exacts [rfl, hendFrame _, hendFrame _]
      · exact hendFrame _
      · exact hendFrame _
    · unfold Line.frameEscapeSeen
      split <;> rfl
    · unfold Line.frameByteSeen Line.addFrameByte
      split
      · split
        · split <;> rfl
        all_goals rfl
      · split
        · split <;> rfl
        all_goals rfl
      all_goals rfl

/-- What the asynchronous path leaves unchanged. -/
theorem Line.receiveAsync_eq (s : State) (l : Line) (c : Completed) :
    l.receiveAsync s c =
      { l with
        queue := (l.receiveAsync s c).queue
        pacing := (l.receiveAsync s c).pacing
        inbandHold := (l.receiveAsync s c).inbandHold } := by
  have hjoin (e : Entry) : l.joinOrLose e =
      { l with queue := (l.joinOrLose e).queue, pacing := (l.joinOrLose e).pacing } := by
    rcases l.joinOrLose_cases e with ⟨-, h⟩ | ⟨-, h⟩
    · rw [h]
      rfl
    · rw [h]
  cases c with
  | brk =>
    simp only [Line.receiveAsync]
    rw [hjoin]
  | char v parity framing =>
    unfold Line.receiveAsync
    dsimp only
    split_ifs
    all_goals first
      | rfl
      | rw [hjoin]

theorem Line.receiveAsync_receiveOk (c : Completed) (hasync : l.framed = false) (h : l.receiveOk) :
    (l.receiveAsync s c).receiveOk := by
  have hflag (b : Bool) (hset : setInband l.setting = true) : Line.receiveOk { l with inbandHold := b } := by
    obtain ⟨hcap, hfit, hpace, htail, hbytes, -, hdrop⟩ := h
    refine ⟨hcap, hfit, hpace, htail, hbytes, fun hno => ?_, hdrop⟩
    rcases hno with hno | hno
    · exact absurd (hasync.symm.trans hno) (by decide)
    · exact absurd (hset.symm.trans hno) (by decide)
  cases c with
  | brk => exact Line.joinOrLose_receiveOk h hasync rfl
  | char v parity framing =>
    unfold Line.receiveAsync
    dsimp only
    generalize (if (parity || framing) = true then 0 else classLookup _ _ _ : BitVec 4) = classes
    split_ifs with hdrop hrel hhold
    · exact h
    · exact hflag _ (Bool.and_eq_true_iff.1 hrel).1
    · exact hflag _ (Bool.and_eq_true_iff.1 hhold).1
    · exact Line.joinOrLose_receiveOk h hasync rfl

/-! ### The receiver and its completions -/

theorem Line.deliver_sound (c : Completed) (h : l.Sound) : (Line.deliver s l c).Sound := by
  obtain ⟨hrx, hrep, -, hsend⟩ := h
  unfold Line.deliver
  apply Line.tend_sound
  have hrx' : l.restartIdle.receiveOk := hrx
  cases hframed : l.framed with
  | true =>
    rw [if_pos rfl]
    refine ⟨Line.receiveFramed_receiveOk c hframed hrx', ?_, ?_, ?_⟩ <;> rw [Line.receiveFramed_eq]
    exacts [hrep, fun _ => rfl, hsend]
  | false =>
    rw [if_neg (by decide)]
    refine ⟨Line.receiveAsync_receiveOk c hframed hrx', ?_, ?_, ?_⟩ <;> rw [Line.receiveAsync_eq]
    exacts [hrep, fun _ => rfl, hsend]

/-- The receiver's own fields stand in no part of the invariant. -/
theorem Line.setReceiver_sound (r : Receiver) (h : l.Sound) : Line.Sound { l with receiver := r } :=
  ⟨h.receive, h.report, h.idle, h.send⟩

theorem Line.enterSearch_sound (h : l.Sound) : l.enterSearch.Sound := Line.setReceiver_sound _ h

theorem Line.complete_sound (c : Completed) (h : l.Sound) : (Line.complete s l c).Sound :=
  Line.deliver_sound c (Line.setReceiver_sound _ (Line.enterSearch_sound h))

theorem Line.fallingEdge_sound (h : l.Sound) : (l.fallingEdge s).Sound := by
  unfold Line.fallingEdge
  split
  exacts [Line.setReceiver_sound _ h, h]

theorem Line.startSample_sound (level : Bool) (h : l.Sound) : (l.startSample level).Sound := by
  unfold Line.startSample
  split_ifs
  exacts [Line.enterSearch_sound h, Line.setReceiver_sound _ h, h]

theorem Line.recoverEnds_sound (h : l.Sound) : (l.recoverEnds s).Sound := by
  unfold Line.recoverEnds
  split
  exacts [Line.enterSearch_sound h, h]

theorem Line.hearFall_sound (h : l.Sound) : (l.hearFall s).Sound := by
  unfold Line.hearFall
  split
  exacts [Line.fallingEdge_sound h, h]

theorem Line.hearBits_sound (h : l.Sound) : (l.hearBits s).Sound := by
  rw [Line.hearBits_eq]
  exact Line.setReceiver_sound _ h

theorem Line.hear_sound (h : l.Sound) : (l.hear s).Sound := by
  unfold Line.hear
  split
  · unfold Line.hearInstant
    split
    exacts [Line.hearFall_sound h, Line.startSample_sound _ h, Line.hearFall_sound (Line.complete_sound _ h),
      Line.recoverEnds_sound h, Line.recoverEnds_sound h]
  · exact Line.hearBits_sound h

theorem Line.freeze_sound (h : l.Sound) : l.freeze.Sound := by
  unfold Line.freeze
  split
  exacts [Line.enterSearch_sound h, h]

/-! ### Timers and SENSE -/

/-- The idle-gap timer stops as it sets IDLE_DUE (R61). -/
theorem Line.setIdleDue_sound (h : l.Sound) : l.setIdleDue.Sound := by
  unfold Line.setIdleDue
  split
  · exact ⟨h.receive, h.report, fun hrun => absurd hrun (by simp), h.send⟩
  · exact h

theorem Line.checkIdleGap_sound (h : l.Sound) : (l.checkIdleGap f).Sound := by
  unfold Line.checkIdleGap
  split
  exacts [Line.setIdleDue_sound h, h]

theorem Line.clearIdleDue_sound (h : l.Sound) : Line.Sound { l with idleDue := false } :=
  ⟨h.receive, h.report, fun _ => rfl, h.send⟩

theorem Line.endCounts_sound (h : l.Sound) : (l.endCounts s).Sound :=
  Line.checkIdleGap_sound (Line.hear_sound (Line.endShifter_sound h))

theorem Line.clock_sound (h : l.Sound) : (l.clock s).Sound := by
  have hreceiver : l.clockReceiver.Sound := by
    rw [Line.clockReceiver_eq]
    exact Line.setReceiver_sound _ h
  have hshifter := Line.clockShifter_sound (f := s.formatOf l) hreceiver
  unfold Line.clock
  rw [Line.clockIdle_eq]
  exact ⟨hshifter.receive, hshifter.report, hshifter.idle, hshifter.send⟩

/-- The SENSE sample counts an accepted change and leaves it pending (R57). -/
theorem Line.sampleSense_sound (pin : Bool) (h : l.Sound) : (l.sampleSense pin).Sound := by
  obtain ⟨hrx, ⟨hcount, hpend, hopen⟩, hidle, hsend⟩ := h
  unfold Line.sampleSense
  split
  · exact ⟨hrx, ⟨hcount, hpend, hopen⟩, hidle, hsend⟩
  · exact ⟨hrx, ⟨hcount, hpend, hopen⟩, hidle, hsend⟩
  · split
    · refine ⟨hrx, ⟨Nat.min_le_left _ _, ?_, by simp [Line.countOk]⟩, hidle, hsend⟩
      simp
    · exact ⟨hrx, ⟨hcount, hpend, hopen⟩, hidle, hsend⟩

/-- The hold timer counts or stops (R62): what it leaves unchanged. -/
theorem Line.countHold_eq (l : Line) :
    l.countHold =
      { l with
        holdCount := if l.holdCounts then l.holdCount + 1 else l.holdCount
        holdStopped := l.holdStopped || (l.holdCounts && decide (l.holdLimit ≤ l.holdCount + 1))
        holdReached := l.holdReached || (l.holdCounts && decide (l.holdLimit ≤ l.holdCount + 1)) } := by
  unfold Line.countHold
  by_cases hc : l.holdCounts = true
  · by_cases hl : l.holdLimit ≤ l.holdCount + 1 <;> simp [hc, hl]
  · simp [hc]

theorem Line.beat_sound (pin : Bool) (h : l.Sound) : (l.beat s pin).Sound := by
  apply Line.tend_sound
  apply Line.sampleSense_sound
  rw [Line.countHold_eq]
  exact ⟨h.receive, h.report, h.idle, h.send⟩

theorem Line.setHoldDue_sound (h : l.Sound) : l.setHoldDue.Sound := by
  unfold Line.setHoldDue
  split
  exacts [⟨h.receive, h.report, h.idle, h.send⟩, h]

theorem Line.closeCount_sound (h : l.Sound) : l.closeCount.Sound :=
  ⟨h.receive, ⟨h.report.1, h.report.2.1, rfl⟩, h.idle, h.send⟩

/-- The STATUS step leaves at most the change of its own instant (R36). -/
theorem Line.reportStatus_sound (h : l.Sound) : l.reportStatus.Sound := by
  refine ⟨h.receive, ?_, h.idle, h.send⟩
  cases hc : l.countBefore <;> simp [Line.reportStatus, Line.reportOk, Line.countOk, hc]

/-! ### A new setting -/

/-- The modes change with the setting word (R63, R64): FRAMED only with a free shifter. -/
theorem Line.changeModes_sound (w : Word) (hfree : setFramed w ≠ l.framed → l.shifter = .empty) (h : l.Sound) :
    (l.changeModes w).Sound := by
  obtain ⟨⟨hcap, hfit, hpace, htail, hbytes, hinband, hdrop⟩, hrep, hidle, hown, hphase⟩ := h
  unfold Line.changeModes
  by_cases hframed : setFramed w ≠ l.framed
  · rw [if_pos hframed]
    have hempty := hfree hframed
    refine ⟨⟨Nat.zero_le _, by simp [Line.resetFraming], rfl, rfl, Nat.zero_le _, fun _ => rfl, hdrop⟩, hrep,
      fun _ => rfl, hown, ?_⟩
    simp [Line.phaseOk, Line.resetFraming, Line.storeSetting, hempty]
  · rw [if_neg hframed]
    have hsame : setFramed w = l.framed := not_not.1 hframed
    have hfit' : ∀ e ∈ l.queue, e.fits (setFramed w) = true := by rwa [hsame]
    split
    · exact ⟨⟨hcap, hfit', hpace, htail, hbytes, fun _ => rfl, hdrop⟩, hrep, hidle, hown, hphase⟩
    · next hkeep =>
      refine ⟨⟨hcap, hfit', hpace, htail, hbytes, fun hno => hinband ?_, hdrop⟩, hrep, hidle, hown, hphase⟩
      rcases hno with hno | hno
      · exact .inl (hsame ▸ hno)
      · refine .inr ?_
        have hno' : setInband w = false := hno
        simpa [hno'] using hkeep

theorem Line.checkHoldLimit_sound (h : l.Sound) : l.checkHoldLimit.Sound := by
  unfold Line.checkHoldLimit
  split
  exacts [⟨h.receive, h.report, h.idle, h.send⟩, h]

theorem Line.applySetting_sound (w : Word) (hfree : setFramed w ≠ l.framed → l.shifter = .empty) (h : l.Sound) :
    (Line.applySetting s l w).Sound :=
  Line.checkIdleGap_sound (Line.checkHoldLimit_sound (Line.tend_sound (Line.changeModes_sound w hfree h)))

/-! ### The sequencer's part in a line -/

theorem Line.quiesce_sound (h : l.Sound) : l.quiesce.Sound := by
  obtain ⟨hrx, hrep, hidle, -, hphase⟩ := h
  unfold Line.quiesce
  rw [Line.tendHoldTimer_eq]
  refine ⟨hrx, hrep, hidle, fun hown => absurd hown (by simp), ?_⟩
  by_cases he : l.shifter = .empty
  · simp [Line.phaseOk, he]
  · rw [if_neg he]
    exact hphase

theorem Line.beginClose_sound (d : Dir) (h : l.Sound) : (l.beginClose d).Sound := by
  cases d with
  | rx => exact ⟨h.receive, h.report, h.idle, h.send⟩
  | tx => exact ⟨h.receive, h.report, h.idle, fun hown => absurd hown (by simp [Line.beginClose]), h.send.2⟩

theorem Line.vacate_sound (d : Dir) (h : l.Sound) : (l.vacate d).Sound := by
  cases d <;> exact ⟨h.receive, h.report, h.idle, h.send⟩

theorem Line.discardOwn_sound (h : l.Sound) : l.discardOwn.Sound := by
  unfold Line.discardOwn
  split
  · exact ⟨h.receive, h.report, h.idle, fun hown => absurd hown (by simp), h.send.2⟩
  · exact h

theorem Line.withdraw_sound (o : TxOrder) (h : l.Sound) : (l.withdraw o).Sound := by
  have hdiscard := Line.discardOwn_sound h
  exact ⟨hdiscard.receive, hdiscard.report, hdiscard.idle, hdiscard.send⟩

theorem Line.fail_sound (h : l.Sound) : l.fail.Sound :=
  ⟨h.receive, h.report, h.idle, fun hown => absurd hown (by simp [Line.fail]), h.send.2⟩

/-- A byte may be placed in holding, as the order's own or not. -/
theorem Line.setHolding_sound (x : Holding) (own : Bool) (o : Option TxOrder) (h : l.Sound) :
    Line.Sound { l with holding := some x, ownByte := own, txOrder := o } :=
  ⟨h.receive, h.report, h.idle, fun _ => rfl, h.send.2⟩

theorem Line.resweep_sound (h : l.Sound) : l.resweep.Sound := by
  unfold Line.resweep
  split
  exacts [h, ⟨h.receive, h.report, h.idle, h.send⟩]

theorem Line.wake_sound (h : l.Sound) : l.wake.Sound := ⟨h.receive, h.report, h.idle, h.send⟩

end Sys2Proof.Machine
end

section
/-! What a visit does between its answers (R35 to R38): it changes its own line, offers events, and then issues a
transaction or ends. Every part of a visit is one of these three, so that what holds of all states is shown of them. -/

namespace Sys2Proof.Machine

variable {s t u : State} {l l' : Line} {n : LineNo} {v : Visit}

/-! ### A visit's changes of its line -/

/-- A visit's change of its line: it keeps the line unit's invariant, FAULTED, a hold limit that waits for its row, and
the flags that only the visit's beginning clears. -/
structure Line.Within (l l' : Line) : Prop where
  sound : l.Sound → l'.Sound
  faulted : l'.faulted = l.faulted
  holdReached : l'.holdReached = l.holdReached
  marks : l'.attn = l.attn ∧ l'.statusPending = l.statusPending

theorem Line.Within.refl (l : Line) : l.Within l := ⟨id, rfl, rfl, rfl, rfl⟩

theorem Line.Within.trans {a b c : Line} (h : a.Within b) (h' : b.Within c) : a.Within c :=
  ⟨h'.sound ∘ h.sound, h'.faulted.trans h.faulted, h'.holdReached.trans h.holdReached,
    h'.marks.1.trans h.marks.1, h'.marks.2.trans h.marks.2⟩

theorem Line.Within.tend (h : l.Within l') : l.Within (Line.tend s l') := by
  refine ⟨fun hl => Line.tend_sound (h.sound hl), ?_, ?_, ?_⟩ <;> rw [Line.tend_eq]
  exacts [h.faulted, h.holdReached, h.marks]

theorem Line.within_beginClose (l : Line) (d : Dir) : l.Within (l.beginClose d) :=
  ⟨Line.beginClose_sound d, by cases d <;> rfl, by cases d <;> rfl, by cases d <;> exact ⟨rfl, rfl⟩⟩

theorem Line.within_vacate (l : Line) (d : Dir) : l.Within (l.vacate d) :=
  ⟨Line.vacate_sound d, by cases d <;> rfl, by cases d <;> rfl, by cases d <;> exact ⟨rfl, rfl⟩⟩

theorem Line.within_withdraw (l : Line) (o : TxOrder) : l.Within (l.withdraw o) := by
  refine ⟨Line.withdraw_sound o, ?_, ?_, ?_, ?_⟩ <;> (dsimp only [Line.withdraw, Line.discardOwn]; split <;> rfl)

theorem Line.within_pop (l : Line) : l.Within l.pop := by
  refine ⟨Line.pop_sound, ?_, ?_, ?_, ?_⟩ <;> (unfold Line.pop; split <;> rfl)

theorem Line.within_setHolding (l : Line) (x : Holding) (own : Bool) (o : Option TxOrder) :
    l.Within { l with holding := some x, ownByte := own, txOrder := o } :=
  ⟨Line.setHolding_sound x own o, rfl, rfl, rfl, rfl⟩

theorem Line.within_markRemnant (l : Line) (o : RxOrder) : l.Within (l.markRemnant o) :=
  ⟨fun h => ⟨h.receive, h.report, h.idle, h.send⟩, rfl, rfl, rfl, rfl⟩

theorem Line.within_clearIdleDue (l : Line) : l.Within { l with idleDue := false } :=
  ⟨Line.clearIdleDue_sound, rfl, rfl, rfl, rfl⟩

/-- What a new setting leaves unchanged. -/
theorem Line.applySetting_eq (s : State) (l : Line) (w : Word) :
    Line.applySetting s l w =
      { Line.tend s (l.changeModes w) with
        holdStopped := (Line.applySetting s l w).holdStopped
        holdDue := (Line.applySetting s l w).holdDue
        idleStarted := (Line.applySetting s l w).idleStarted
        idleDue := (Line.applySetting s l w).idleDue } := by
  unfold Line.applySetting Line.checkIdleGap Line.setIdleDue Line.checkHoldLimit
  split_ifs <;> rfl

/-- What the modes of a new setting leave unchanged. -/
theorem Line.changeModes_eq (l : Line) (w : Word) :
    l.changeModes w =
      { l with
        setting := w
        sensePrev := (l.changeModes w).sensePrev
        queue := (l.changeModes w).queue
        pacing := (l.changeModes w).pacing
        remnant := (l.changeModes w).remnant
        frameRx := (l.changeModes w).frameRx
        tail := (l.changeModes w).tail
        frameBytes := (l.changeModes w).frameBytes
        txPhase := (l.changeModes w).txPhase
        abortPending := (l.changeModes w).abortPending
        inbandHold := (l.changeModes w).inbandHold
        idleStarted := (l.changeModes w).idleStarted
        idleBits := (l.changeModes w).idleBits
        idleClocks := (l.changeModes w).idleClocks
        idleDue := (l.changeModes w).idleDue } := by
  unfold Line.changeModes
  split_ifs <;> rfl

theorem Line.within_applySetting (l : Line) (w : Word) (hfree : setFramed w ≠ l.framed → l.shifter = .empty) :
    l.Within (Line.applySetting s l w) := by
  refine ⟨Line.applySetting_sound w hfree, ?_, ?_, ?_⟩ <;>
    rw [Line.applySetting_eq, Line.tend_eq, Line.changeModes_eq]
  exact ⟨rfl, rfl⟩

/-- A break starts over a free shifter (R91). -/
theorem Line.within_startBreak (times : Byte) (f : Format) (loop : Bool) (o : TxOrder) (hfree : l.shifter = .empty) :
    l.Within { l with drainWait := false, txOrder := some o, shifter := .brk times f 0 loop } := by
  refine ⟨fun h => ⟨h.receive, h.report, h.idle, h.send.1, (Line.phaseOk_of_free fun t => by simp).2 ?_⟩, rfl, rfl,
    rfl, rfl⟩
  exact (Line.phaseOk_of_free (l := l) fun t => by simp [hfree]).1 h.send.2

/-- A drained transmitter has a free shifter. -/
theorem Line.shifter_of_drained (h : l.drained = true) : l.shifter = .empty := by
  simp only [Line.drained, Bool.and_eq_true, beq_iff_eq] at h
  exact h.1.2

/-! ### A visit's changes of the state -/

/-- A state without what a visit may change between its transactions: the lines and the event port. -/
def State.frame (s : State) : State :=
  { s with lines := State.reset.lines, events := [], overflow := false, lost := 0 }

/-- `u` is `s` but for changes of line `n` and events offered. -/
structure Within (n : LineNo) (s u : State) : Prop where
  frame : u.frame = s.frame
  other : ∀ m, m ≠ n → u.line m = s.line m
  line : (s.line n).Within (u.line n)
  port : s.portOk → u.portOk

theorem Within.refl (n : LineNo) (s : State) : Within n s s := ⟨rfl, fun _ _ => rfl, .refl _, id⟩

theorem Within.trans (h : Within n s t) (h' : Within n t u) : Within n s u :=
  ⟨h'.frame.trans h.frame, fun m hm => (h'.other m hm).trans (h.other m hm), h.line.trans h'.line, h'.port ∘ h.port⟩

theorem within_setLine (h : (s.line n).Within l) : Within n s (s.setLine n l) :=
  ⟨rfl, fun _ hm => State.line_setLine_ne _ _ _ _ hm.symm, by rwa [State.line_setLine_self], id⟩

/-- A new record at the tail is no older than the others (R128, R138). -/
theorem State.offer_portOk (e : EventRec) (hage : e.age = 0) (h : s.portOk) : (s.offer e).portOk := by
  obtain ⟨hcap, hfull, hlost, hmax, hmissed, hages, hsorted⟩ := h
  by_cases hroom : s.events.length < 32
  · rw [State.offer_room e hroom]
    have hclear : s.overflow = false := by
      by_contra hover
      have := hfull (by simpa using hover)
      simp only [Config.eventCapacity] at this
      omega
    refine ⟨by simpa [Config.eventCapacity] using hroom, fun hover => ?_, hlost, hmax, hmissed, ?_, ?_⟩
    · exact absurd (hclear.symm.trans hover) (by decide)
    · intro x hx
      rcases List.mem_append.1 hx with hx | hx
      · exact hages x hx
      · rw [List.mem_singleton.1 hx, hage]
        exact Nat.zero_le _
    · refine List.pairwise_append.2 ⟨hsorted, List.pairwise_singleton _ _, fun x _ y hy => ?_⟩
      rw [List.mem_singleton.1 hy, hage]
      exact Nat.zero_le _
  · rw [State.offer_full e (by omega)]
    simp only [Config.eventCapacity] at hcap
    refine ⟨hcap, fun _ => ?_, ?_, Nat.min_le_left _ _, hmissed, hages, hsorted⟩
    · simp only [Config.eventCapacity]
      omega
    · simp

theorem within_offer (e : EventRec) (hage : e.age = 0) : Within n s (s.offer e) := by
  refine ⟨by rw [State.offer_eq]; rfl, fun m _ => State.offer_line e, ?_, State.offer_portOk e hage⟩
  rw [State.offer_line]
  exact .refl _

/-- What a visit comes to: a transaction it waits for, its end, or its end on a line that becomes FAULTED. -/
inductive Proceeds (s : State) (v : Visit) : State → Prop where
  | issues {u : State} (h : Within v.line s u) (p : VisitPoint) (r : MemRequest) (a : Word) (k : AccessKind)
      (hp : p.matches { tag := u.txnCount, request := r, addr := a, access := k, line := v.line, beats := 0 } = true) :
      Proceeds s v (u.issue v p r a k)
  | ends {u : State} (h : Within v.line s u) : Proceeds s v (endVisit u v)
  | fails {u : State} (h : Within v.line s u) (x : Txn) (cause : FaultCause) : Proceeds s v (lineFault u v x cause)

theorem Proceeds.of_within (h : Within v.line s u) (h' : Proceeds u v t) : Proceeds s v t := by
  cases h' with
  | issues h2 p r a k hp => exact .issues (h.trans h2) p r a k hp
  | ends h2 => exact .ends (h.trans h2)
  | fails h2 x cause => exact .fails (h.trans h2) x cause

/-- A visit that changes its line and goes on. -/
theorem Proceeds.of_setLine (hl : (s.line v.line).Within l) (h : Proceeds (s.setLine v.line l) v t) :
    Proceeds s v t :=
  .of_within (within_setLine hl) h

/-! ### Transactions -/

/-- The two transactions of a close belong to their points (Table 40). -/
theorem VisitPoint.matches_writeOrder {d : Dir} {order : Word} {x : Txn} (hr : x.request = .wordWrite order)
    (hk : x.access = writebackAccess d) : (VisitPoint.writeOrder d order).matches x = true := by
  obtain ⟨tag, request, addr, access, line, beats⟩ := x
  cases hr
  cases hk
  change (writebackAccess d == writebackAccess d && order == order) = true
  simp

theorem VisitPoint.matches_writeLength {d : Dir} {order w : Word} {x : Txn} (hr : x.request = .wordWrite w)
    (hk : x.access = writebackAccess d) : (VisitPoint.writeLength d order).matches x = true := by
  obtain ⟨tag, request, addr, access, line, beats⟩ := x
  cases hr
  cases hk
  exact beq_self_eq_true (writebackAccess d)

/-- A fetch's word reads belong to their points (Table 40). -/
theorem VisitPoint.matches_wordRead {p : VisitPoint} {k : AccessKind} {x : Txn} (hr : x.request = .wordRead)
    (hk : x.access = k)
    (hp : (∃ d cancel, p = .fetchOrder d cancel ∧ k = orderAccess d) ∨
      (∃ d order, p = .fetchAddress d order ∧ k = parameterAccess d) ∨
      (∃ d order addr, p = .fetchLength d order addr ∧ k = parameterAccess d) ∨
      (∃ order, p = .fetchSetting order ∧ k = .txParameterFetch) ∨
      ∃ order setting, p = .fetchFrame order setting ∧ k = .txParameterFetch) : p.matches x = true := by
  obtain ⟨tag, request, addr, access, line, beats⟩ := x
  cases hr
  cases hk
  rcases hp with ⟨d, _, rfl, rfl⟩ | ⟨d, _, rfl, rfl⟩ | ⟨d, _, _, rfl, rfl⟩ | ⟨_, rfl, rfl⟩ | ⟨_, _, rfl, rfl⟩
  · exact beq_self_eq_true (orderAccess d)
  · exact beq_self_eq_true (parameterAccess d)
  · exact beq_self_eq_true (parameterAccess d)
  · rfl
  · rfl

/-- The two buffer transactions belong to their points (Table 40). -/
theorem VisitPoint.matches_buffer {p : VisitPoint} {x : Txn}
    (hp : (∃ quota b, p = .storeByte quota ∧ x.request = .byteWrite b ∧ x.access = .rxBuffer) ∨
      (p = .loadByte ∧ x.request = .byteRead ∧ x.access = .txBuffer)) : p.matches x = true := by
  obtain ⟨tag, request, addr, access, line, beats⟩ := x
  rcases hp with ⟨_, _, rfl, hr, hk⟩ | ⟨rfl, hr, hk⟩ <;> (cases hr; cases hk; rfl)


/-- A visit waits for a transaction that belongs to its point. -/
theorem proceeds_issue {p : VisitPoint} {r : MemRequest} (a : Word) {k : AccessKind}
    (hp : ∀ x : Txn, x.request = r → x.access = k → p.matches x = true) : Proceeds s v (s.issue v p r a k) :=
  .issues (.refl _ s) p r a k (hp _ rfl rfl)

theorem proceeds_issueOrderWrite (d : Dir) (order : Word) : Proceeds s v (issueOrderWrite s v d order) :=
  proceeds_issue _ fun _ => VisitPoint.matches_writeOrder

theorem proceeds_issueLengthWrite (d : Dir) (order length : Word) :
    Proceeds s v (issueLengthWrite s v d order length) :=
  proceeds_issue _ fun _ => VisitPoint.matches_writeLength

theorem proceeds_issueFetch (d : Dir) (cancel : Bool) : Proceeds s v (issueFetch s v d cancel) :=
  proceeds_issue _ fun _ hr hk => VisitPoint.matches_wordRead hr hk (.inl ⟨d, cancel, rfl, rfl⟩)

theorem proceeds_issueParameter {d : Dir} {point : VisitPoint} (offset : Nat)
    (hp : (∃ order, point = .fetchAddress d order) ∨ (∃ order addr, point = .fetchLength d order addr) ∨
      (∃ order, point = .fetchSetting order ∧ d = .tx) ∨ ∃ order setting, point = .fetchFrame order setting ∧ d = .tx) :
    Proceeds s v (issueParameter s v d point offset) :=
  proceeds_issue _ fun _ hr hk => VisitPoint.matches_wordRead hr hk <| by
    rcases hp with ⟨order, rfl⟩ | ⟨order, addr, rfl⟩ | ⟨order, rfl, rfl⟩ | ⟨order, setting, rfl, rfl⟩
    · exact .inr (.inl ⟨d, order, rfl, rfl⟩)
    · exact .inr (.inr (.inl ⟨d, order, addr, rfl, rfl⟩))
    · exact .inr (.inr (.inr (.inl ⟨order, rfl, rfl⟩)))
    · exact .inr (.inr (.inr (.inr ⟨order, setting, rfl, rfl⟩)))

theorem proceeds_beginClose (d : Dir) (order : Word) (length : Option Word) :
    Proceeds s v (beginClose s v d order length) := by
  refine .of_setLine (l := Line.tend s ((s.line v.line).beginClose d)) ((Line.within_beginClose _ d).tend) ?_
  cases length with
  | none => exact proceeds_issueOrderWrite d order
  | some w => exact proceeds_issueLengthWrite d order w

theorem proceeds_closeRx (o : RxOrder) (code : BitVec 5) (datum : Byte) : Proceeds s v (closeRx s v o code datum) :=
  proceeds_beginClose _ _ _

theorem proceeds_closeTx (o : TxOrder) (code : BitVec 5) (datum : Byte) : Proceeds s v (closeTx s v o code datum) :=
  proceeds_beginClose _ _ _

theorem proceeds_endVisit : Proceeds s v (endVisit s v) := .ends (.refl _ s)

/-! ### The TX step -/

theorem proceeds_cancelTx (o : TxOrder) : Proceeds s v (cancelTx s v o) :=
  .of_setLine (Line.within_withdraw _ o) (proceeds_closeTx _ _ _)

theorem proceeds_holdTimeout (o : TxOrder) : Proceeds s v (holdTimeout s v o) :=
  .of_setLine (Line.within_withdraw _ o) (proceeds_closeTx _ _ _)

theorem proceeds_loadSingle (o : TxOrder) : Proceeds s v (loadSingle s v o) :=
  .of_setLine (Line.within_setHolding (s.line v.line) _ _ _).tend (proceeds_closeTx _ _ _)

theorem proceeds_startBreak (o : TxOrder) (hdrained : (s.line v.line).drained = true) :
    Proceeds s v (startBreak s v o) :=
  .of_setLine (Line.within_startBreak _ _ _ _ (Line.shifter_of_drained hdrained)) proceeds_endVisit

theorem proceeds_applyOrderSetting (o : TxOrder) (hdrained : (s.line v.line).drained = true) :
    Proceeds s v (applyOrderSetting s v o) := by
  unfold applyOrderSetting
  split
  · exact proceeds_closeTx _ _ _
  · let l' : Line := { (s.line v.line).applyFrame o.markChar o.escapeChar with drainWait := false }
    have hl : (s.line v.line).Within l' := ⟨fun h => ⟨h.receive, h.report, h.idle, h.send⟩, rfl, rfl, rfl, rfl⟩
    have hset : l'.Within (Line.applySetting s l' o.settingWord) :=
      Line.within_applySetting l' _ fun _ => Line.shifter_of_drained hdrained
    exact .of_setLine (hl.trans hset) (proceeds_closeTx _ _ _)

theorem proceeds_txAdvance (o : TxOrder) : Proceeds s v (txAdvance s v o) := by
  have hload : Proceeds s v (issueLoad s v o) :=
    proceeds_issue _ fun _ hr hk => VisitPoint.matches_buffer (.inr ⟨rfl, hr, hk⟩)
  unfold txAdvance
  split <;> split
  all_goals first
    | exact proceeds_endVisit
    | exact proceeds_loadSingle o
    | exact hload
    | next h => first
      | exact proceeds_startBreak o (Bool.and_eq_true_iff.1 h).2
      | exact proceeds_applyOrderSetting o (Bool.and_eq_true_iff.1 h).2

theorem proceeds_txMode (o : TxOrder) : Proceeds s v (txMode s v o) := by
  unfold txMode
  split_ifs
  · exact proceeds_closeTx _ _ _
  · exact proceeds_holdTimeout o
  · exact proceeds_closeTx _ _ _
  · refine .of_setLine (l := { s.line v.line with breakDone := false }) ?_ (proceeds_txAdvance o)
    exact ⟨fun h => ⟨h.receive, h.report, h.idle, h.send⟩, rfl, rfl, rfl, rfl⟩
  · exact proceeds_txAdvance o

theorem proceeds_txStep : Proceeds s v (txStep s v) := by
  unfold txStep
  split <;> split_ifs
  exacts [proceeds_cancelTx _, proceeds_txMode _, proceeds_issueFetch _ _, proceeds_issueFetch _ _, proceeds_endVisit]

theorem proceeds_afterStep (d : Dir) : Proceeds s v (afterStep s v d) := by
  cases d
  exacts [proceeds_txStep, proceeds_endVisit]

/-! ### The RX step -/

theorem proceeds_rxIdleTest : Proceeds s v (rxIdleTest s v) := by
  unfold rxIdleTest
  split
  · exact proceeds_txStep
  · split_ifs
    · exact .of_setLine (Line.within_clearIdleDue _) proceeds_txStep
    · exact .of_setLine (Line.within_clearIdleDue _) (proceeds_closeRx _ _ _)
    · exact proceeds_txStep
    · exact proceeds_txStep

theorem within_popHead : Within v.line s (popHead s v) := within_setLine (Line.within_pop _)

theorem within_setRxOrder (o : RxOrder) : Within v.line s (setRxOrder s v o) :=
  within_setLine ⟨fun h => ⟨h.receive, h.report, h.idle, h.send⟩, rfl, rfl, rfl, rfl⟩

theorem proceeds_issueStore (o : RxOrder) (quota : Nat) (value : Byte) : Proceeds s v (issueStore s v o quota value) :=
  proceeds_issue _ fun _ hr hk => VisitPoint.matches_buffer (.inl ⟨quota, value, rfl, hr, hk⟩)

/-- The head entry leaves, and the order closes. -/
theorem proceeds_closeHead (o : RxOrder) (code : BitVec 5) (datum : Byte) :
    Proceeds s v (closeRx (popHead s v) v o code datum) :=
  .of_within within_popHead (proceeds_closeRx _ _ _)

/-- A character of a block order closes it by its errors or is stored (R69, R71). -/
theorem proceeds_blockData (o : RxOrder) (parity framing : Bool) (quota : Nat) (value : Byte) :
    Proceeds s v
      (if framing then closeRx (popHead s v) v o codeFraming value
      else if parity then closeRx (popHead s v) v o codeParity value
      else issueStore s v o quota value) := by
  split_ifs
  exacts [proceeds_closeHead _ _ _, proceeds_closeHead _ _ _, proceeds_issueStore _ _ _]

theorem proceeds_rxEntries (quota : Nat) : Proceeds s v (rxEntries quota s v) := by
  induction quota generalizing s with
  | zero => exact proceeds_rxIdleTest
  | succ q ih =>
    unfold rxEntries
    split
    · split
      · exact proceeds_closeHead _ _ _
      · split_ifs
        · exact .of_within within_popHead ih
        · exact .of_within ((within_setRxOrder _).trans within_popHead) ih
        · exact .of_within (within_setRxOrder _) (proceeds_issueStore _ _ _)
      · split_ifs
        · exact .of_within within_popHead ih
        · exact proceeds_closeHead _ _ _
      · exact proceeds_txStep
      · exact proceeds_blockData _ _ _ _ _
      · exact proceeds_blockData _ _ _ _ _
      · exact proceeds_closeHead _ _ _
      · exact proceeds_closeHead _ _ _
      · exact proceeds_txStep
      · exact proceeds_txStep
    · exact proceeds_rxIdleTest

theorem proceeds_rxMode (o : RxOrder) : Proceeds s v (rxMode s v o) := by
  unfold rxMode
  split
  · exact proceeds_rxEntries _
  · exact .of_setLine (Line.within_clearIdleDue _) (proceeds_rxEntries _)

theorem proceeds_rxStep : Proceeds s v (rxStep s v) := by
  unfold rxStep
  split <;> split_ifs
  exacts [.of_setLine (Line.within_markRemnant _ _) (proceeds_closeRx _ _ _), proceeds_rxMode _,
    proceeds_issueFetch _ _, proceeds_issueFetch _ _, proceeds_txStep]

/-! ### Beginning a visit -/

/-- The state in which a visit to line `n` makes its RX step (R32, R36). -/
def State.begun (s : State) (n : LineNo) : State :=
  statusStep ({ s with position := n }.onLine n fun l => { l with attn := false }) n

/-- A visit begins with its position, its line's flags and the STATUS event, if one is due. -/
theorem State.begun_cases (s : State) (n : LineNo) :
    let cleared : Line := { s.line n with attn := false }
    ((s.line n).pendingBefore = false ∧ s.begun n = { s with position := n }.setLine n cleared) ∨
      ((s.line n).pendingBefore = true ∧ ∃ e : EventRec, e.age = 0 ∧
        s.begun n = (({ s with position := n }.setLine n cleared).offer e).setLine n cleared.reportStatus) := by
  intro cleared
  have hline : (({ s with position := n } : State).setLine n cleared).line n = cleared :=
    State.line_setLine_self _ _ _
  have hbegun : s.begun n = statusStep (({ s with position := n } : State).setLine n cleared) n := rfl
  cases h : (s.line n).pendingBefore with
  | false =>
    refine .inl ⟨rfl, hbegun.trans (statusStep_of_none ?_)⟩
    rw [hline]
    exact h
  | true =>
    refine .inr ⟨rfl, statusEvent n cleared cleared.senseBefore cleared.changesBefore, rfl, ?_⟩
    rw [hbegun, statusStep, hline, if_pos (by exact h), State.onLine_eq, State.offer_line, hline]

theorem proceeds_beginVisit (s : State) (n : LineNo) : Proceeds (s.begun n) (snapshot s n) (beginVisit s n) :=
  proceeds_rxStep

/-! ### Fetched words -/

theorem proceeds_reject (d : Dir) (order : Word) (reason : Byte) : Proceeds s v (reject s v d order reason) :=
  proceeds_beginClose _ _ _

theorem proceeds_acceptRx (o : RxOrder) : Proceeds s v (acceptRx s v o) :=
  .of_within (within_setRxOrder o) (proceeds_rxMode o)

theorem proceeds_acceptTx (o : TxOrder) : Proceeds s v (acceptTx s v o) := by
  let l' : Line := { s.line v.line with txOrder := some o, drainWait := o.mode.drains, ownByte := false }
  have hl : (s.line v.line).Within l' :=
    ⟨fun h => ⟨h.receive, h.report, h.idle, fun hown => absurd hown (by simp [l']), h.send.2⟩, rfl, rfl, rfl, rfl⟩
  exact .of_setLine hl.tend (proceeds_txMode o)

theorem proceeds_fetchedRx (order : Word) : Proceeds s v (fetchedRx s v order) := by
  unfold fetchedRx
  split
  · exact proceeds_reject _ _ _
  · exact proceeds_acceptRx _
  · exact proceeds_issueParameter _ (.inl ⟨_, rfl⟩)

theorem proceeds_fetchedTx (order : Word) : Proceeds s v (fetchedTx s v order) := by
  unfold fetchedTx
  split
  · exact proceeds_reject _ _ _
  · exact proceeds_acceptTx _
  · exact proceeds_acceptTx _
  · exact proceeds_issueParameter _ (.inr (.inr (.inl ⟨_, rfl, rfl⟩)))
  · exact proceeds_issueParameter _ (.inl ⟨_, rfl⟩)

theorem proceeds_fetchedCancel (d : Dir) (order : Word) : Proceeds s v (fetchedCancel s v d order) := by
  unfold fetchedCancel
  split
  · exact proceeds_beginClose _ _ _
  · refine .of_setLine ?_ (proceeds_afterStep d)
    cases d <;> exact ⟨fun h => ⟨h.receive, h.report, h.idle, h.send⟩, rfl, rfl, rfl, rfl⟩

theorem proceeds_fetchedOrder (d : Dir) (order : Word) : Proceeds s v (fetchedOrder s v d order) := by
  unfold fetchedOrder
  split
  · cases d
    exacts [proceeds_fetchedRx order, proceeds_fetchedTx order]
  · exact proceeds_afterStep d

theorem proceeds_fetchedLength (d : Dir) (order address length : Word) :
    Proceeds s v (fetchedLength s v d order address length) := by
  unfold fetchedLength
  split
  · exact proceeds_reject _ _ _
  · cases d
    exacts [proceeds_acceptRx _, proceeds_acceptTx _]

theorem proceeds_fetchedSetting (order setting : Word) : Proceeds s v (fetchedSetting s v order setting) := by
  unfold fetchedSetting
  split
  · exact proceeds_issueParameter _ (.inr (.inr (.inr ⟨_, _, rfl, rfl⟩)))
  · exact proceeds_reject _ _ _

theorem proceeds_fetchedFrame (order setting frame : Word) : Proceeds s v (fetchedFrame s v order setting frame) := by
  unfold fetchedFrame
  split
  · exact proceeds_reject _ _ _
  · exact proceeds_acceptTx _

/-- A word arrives at a point that waits for one; at any other point it changes nothing. -/
theorem wordArrived_cases (w : Word) :
    Proceeds s v (wordArrived s v w) ∨
      wordArrived s v w = s ∧ ∀ x : Txn, x.request = .wordRead → v.point.matches x = false := by
  unfold wordArrived
  split
  · exact .inl (proceeds_fetchedCancel _ _)
  · exact .inl (proceeds_fetchedOrder _ _)
  · exact .inl (proceeds_issueParameter _ (.inr (.inl ⟨_, _, rfl⟩)))
  · exact .inl (proceeds_fetchedLength _ _ _ _)
  · exact .inl (proceeds_fetchedSetting _ _)
  · exact .inl (proceeds_fetchedFrame _ _ _)
  all_goals
    next hp =>
      refine .inr ⟨rfl, fun ⟨_, request, _, _, _, _⟩ hr => ?_⟩
      cases hr
      rw [hp]
      rfl

/-! ### Writebacks, buffer bytes and faults -/

theorem within_offerEnd (d : Dir) (order : Word) : Within n s (s.offerEnd d n order) := by
  unfold State.offerEnd
  split
  exacts [within_offer _ rfl, .refl n s]

theorem proceeds_closeEnds (d : Dir) (order : Word) : Proceeds s v (closeEnds s v d order) :=
  .of_within ((within_setLine (Line.within_vacate _ d).tend).trans (within_offerEnd d order)) (proceeds_afterStep d)

/-- A write is accepted at a point that waits for one; at any other point it changes nothing. -/
theorem wordWritten_cases :
    Proceeds s v (wordWritten s v) ∨
      wordWritten s v = s ∧ ∀ (x : Txn) (w : Word), x.request = .wordWrite w → v.point.matches x = false := by
  unfold wordWritten
  split
  · exact .inl (proceeds_issueOrderWrite _ _)
  · exact .inl (proceeds_closeEnds _ _)
  all_goals
    next hp =>
      refine .inr ⟨rfl, fun ⟨_, request, _, _, _, _⟩ w hr => ?_⟩
      cases hr
      rw [hp]
      rfl

theorem proceeds_storedBlock (o : RxOrder) (quota : Nat) (value : Byte) (overrun : Bool) (classes : BitVec 4) :
    Proceeds s v (storedBlock s v o quota value overrun classes) := by
  have hecho : Within v.line s
      (if echoWanted o classes && (s.line v.line).mayEcho then
        s.onLine v.line fun l => Line.tend s (l.echo value) else s) := by
    split
    · exact within_setLine (Line.within_setHolding (s.line v.line) _ _ _).tend
    · exact .refl _ s
  unfold storedBlock
  dsimp only
  split
  exacts [.of_within hecho (proceeds_closeRx _ _ _), .of_within hecho (proceeds_rxEntries _)]

theorem proceeds_byteStored (quota : Nat) : Proceeds s v (byteStored s v quota) := by
  have hcount (o : RxOrder) : Within v.line s (countStored s v o) := (within_setRxOrder o).trans within_popHead
  unfold byteStored
  dsimp only
  split
  · split
    exacts [.of_within (hcount _) (proceeds_rxEntries _), .of_within (hcount _) (proceeds_storedBlock _ _ _ _ _)]
  · exact proceeds_txStep

theorem proceeds_byteLoaded (b : Byte) : Proceeds s v (byteLoaded s v b) := by
  have hload (o : TxOrder) : Within v.line s (s.setLine v.line (Line.tend s ((s.line v.line).load o b))) :=
    within_setLine (Line.within_setHolding (s.line v.line) _ _ _).tend
  unfold byteLoaded
  dsimp only
  split
  · exact proceeds_endVisit
  · split_ifs
    exacts [proceeds_endVisit, .of_within (hload _) (proceeds_closeTx _ _ _),
      .of_within (hload _) (proceeds_closeTx _ _ _), .of_within (hload _) proceeds_endVisit]

theorem proceeds_rxBufferFault : Proceeds s v (rxBufferFault s v) := by
  unfold rxBufferFault
  split
  · exact .of_setLine ((Line.within_pop _).trans (Line.within_markRemnant _ _)) (proceeds_closeRx _ _ _)
  · exact proceeds_txStep

theorem proceeds_txBufferFault : Proceeds s v (txBufferFault s v) := by
  unfold txBufferFault
  split
  · refine .of_setLine ?_ (proceeds_closeTx _ _ _)
    exact ⟨fun h => ⟨h.receive, h.report, h.idle, h.send⟩, rfl, rfl, rfl, rfl⟩
  · exact proceeds_endVisit

/-- A fault is recorded, and then the order closes or the line fails (R144 to R147). -/
theorem proceeds_txnFault (x : Txn) (cause : FaultCause) :
    Proceeds (s.recordFault x cause) v (txnFault s v x cause) := by
  unfold txnFault
  split
  exacts [proceeds_rxBufferFault, proceeds_txBufferFault, .fails (.refl _ _) x cause, .fails (.refl _ _) x cause,
    .fails (.refl _ _) x cause, .fails (.refl _ _) x cause, .fails (.refl _ _) x cause, .fails (.refl _ _) x cause,
    .fails (.refl _ _) x cause]

end Sys2Proof.Machine
end

section
/-! The moves of the sequencer and of the power state as equations, and what a visit's end leaves of each line. -/

namespace Sys2Proof.Machine

variable {s t u : State} {n : LineNo} {v : Visit}

/-! ### The moves -/

/-- Ending a doze changes the power state, REQ and the idle watch only (R159). -/
theorem State.endDoze_eq (s : State) :
    s.endDoze =
      { s with
        power := if s.power = .doze then .active else s.power
        req := if s.power = .doze then .active else s.req
        idleBeats := if s.power = .doze then 0 else s.idleBeats } := by
  unfold State.endDoze
  split <;> rfl

/-- A move abandons a standby entry (R160). -/
theorem State.moveSeq_eq (s : State) (q : SeqState) :
    s.moveSeq q =
      { s with
        seq := q
        power := if s.power = .standbyEntry ∧ q ≠ .stopped ∧ q ≠ .paused then .active else s.power
        req := if s.power = .standbyEntry ∧ q ≠ .stopped ∧ q ≠ .paused then .active else s.req } := by
  unfold State.moveSeq
  split <;> rfl

/-- A requested doze is entered, or ends at once, or waits (R158, R159). -/
theorem State.enterRequestedDoze_eq (s : State) :
    s.enterRequestedDoze =
      { s with
        power := s.enterRequestedDoze.power
        req := s.enterRequestedDoze.req
        idleBeats := s.enterRequestedDoze.idleBeats } := by
  rcases State.enterRequestedDoze_cases (s := s) with ⟨-, -, h⟩ | h <;> rw [h]
  rw [State.enterDoze_eq]

@[simp] theorem State.enterRequestedDoze_line (s : State) (n : LineNo) :
    s.enterRequestedDoze.line n = s.line n := by
  rw [State.enterRequestedDoze_eq]
  rfl

@[simp] theorem State.moveSeq_line (s : State) (q : SeqState) (n : LineNo) : (s.moveSeq q).line n = s.line n := by
  simp [State.line]

@[simp] theorem State.enterQuiesced_line (s : State) (n : LineNo) :
    s.enterQuiesced.line n = (s.line n).quiesce := by simp [State.enterQuiesced]

/-- A transitional state that becomes stable changes a line only at QUIESCED (R29, R167). -/
theorem State.settleSeq_line (s : State) (n : LineNo) :
    s.settleSeq.line n = if s.seq = .quiescing then (s.line n).quiesce else s.line n := by
  unfold State.settleSeq
  split <;> simp [*]

/-- A visit's end leaves each line as it is, but for a held RESET_LINE and for an entry into QUIESCED (R29, R44). -/
theorem endVisit_line (s : State) (v : Visit) (n : LineNo) :
    (endVisit s v).line n =
      (let l := if v.resetHeld = true ∧ n = v.line then Line.reset else s.line n
      if s.seq = .quiescing then l.quiesce else l) := by
  unfold endVisit
  rw [State.enterRequestedDoze_line, State.settleSeq_line]
  cases v.resetHeld with
  | false => simp only [Bool.false_eq_true, if_false, false_and]; rfl
  | true =>
    simp only [if_true, true_and]
    have hline := State.line_setLine s v.line n Line.reset
    change (if s.seq = .quiescing then ((s.setLine v.line Line.reset).line n).quiesce
      else (s.setLine v.line Line.reset).line n) = _
    rw [hline]

/-! ### Hold limits that wait for their rows -/

theorem State.holdsDue_eq_false : s.holdsDue = false ↔ ∀ n, (s.line n).holdReached = false := by
  simp [State.holdsDue]

@[simp] theorem Line.quiesce_holdReached (l : Line) : l.quiesce.holdReached = l.holdReached := by
  rw [Line.quiesce, Line.tendHoldTimer_eq]

theorem endVisit_holdsDue (h : s.holdsDue = false) : (endVisit s v).holdsDue = false := by
  rw [State.holdsDue_eq_false] at h ⊢
  intro n
  rw [endVisit_line]
  dsimp only
  split_ifs <;> simp [h, Line.reset]

theorem Within.holdsDue (hw : Within n s u) (h : s.holdsDue = false) : u.holdsDue = false := by
  rw [State.holdsDue_eq_false] at h ⊢
  intro m
  by_cases hm : m = n
  · rw [hm, hw.line.holdReached, h]
  · rw [hw.other m hm, h]

/-- A line that becomes FAULTED keeps no count apart of its hold limit. -/
theorem Line.tend_fail_holdReached (s : State) (l : Line) : (Line.tend s l.fail).holdReached = l.holdReached := by
  rw [Line.tend_eq]
  rfl

theorem Proceeds.holdsDue (hp : Proceeds s v t) (h : s.holdsDue = false) : t.holdsDue = false := by
  cases hp with
  | issues hw p r a k _ => exact hw.holdsDue h
  | ends hw => exact endVisit_holdsDue (hw.holdsDue h)
  | @fails u hw x cause =>
    apply endVisit_holdsDue
    have hu := State.holdsDue_eq_false.1 (hw.holdsDue h)
    refine State.holdsDue_eq_false.2 fun n => ?_
    rw [State.offer_line, State.onLine_eq, State.line_setLine]
    split
    · rw [Line.tend_fail_holdReached, hu]
    · exact hu n

/-- What a visit comes to is no transaction that has been outstanding over a beat boundary. -/
theorem Proceeds.timeoutDue (hp : Proceeds s v t) : t.timeoutDue = false := by
  cases hp with
  | issues hw p r a k _ => rfl
  | ends hw => simp [State.timeoutDue, endVisit_visit]
  | fails hw x cause => simp [State.timeoutDue, lineFault, endVisit_visit]

/-! ### Nothing is due after `finishInstant` (log entry 1) -/

theorem State.expireHolds_holdsDue (s : State) : s.expireHolds.holdsDue = false := by
  unfold State.expireHolds
  split
  · refine State.holdsDue_eq_false.2 fun n => ?_
    rw [State.line_onLines]
    unfold Line.setHoldDue
    split
    · rfl
    · next h => simpa using h
  · next h => simpa using h

/-- A timeout is a fault of the visit in progress (R143). -/
theorem proceeds_timeOut {x : Txn} (hv : s.visit = some v) (hm : s.mem = some x) :
    Proceeds (s.freeEngine.recordFault x .timeout) v (timeOut s) := by
  simp only [timeOut, hv, hm]
  exact proceeds_txnFault x .timeout

theorem State.timeoutDue_iff : s.timeoutDue = true ↔ ∃ v x, s.visit = some v ∧ s.mem = some x ∧ 2 ≤ x.beats := by
  unfold State.timeoutDue
  cases s.visit <;> cases s.mem <;> simp

/-- Once the hold limits and the timeout have acted, neither is due. -/
theorem State.finishVisit_due (s : State) : s.finishVisit.holdsDue = false ∧ s.finishVisit.timeoutDue = false := by
  have hholds := s.expireHolds_holdsDue
  unfold State.finishVisit State.expireTimeout
  split
  · next hdue =>
    obtain ⟨v, x, hv, hm, -⟩ := State.timeoutDue_iff.1 hdue
    have hp := proceeds_timeOut hv hm
    exact ⟨hp.holdsDue hholds, hp.timeoutDue⟩
  · next hdue => exact ⟨hholds, by simpa using hdue⟩

/-- The fields by which a timer but the cadence and the guard is due. -/
theorem State.expireTick_due (s : State) :
    s.expireTick.tickDue = false ∧ s.expireTick.holdsDue = s.holdsDue ∧ s.expireTick.timeoutDue = s.timeoutDue := by
  unfold State.expireTick
  split
  · refine ⟨?_, rfl, rfl⟩
    simp only [State.tickDue, Bool.and_eq_false_iff, decide_eq_false_iff_not, bne_eq_false_iff_eq]
    by_cases hc : s.cadence = 0
    · exact .inl hc
    · refine .inr (Nat.not_le.2 (Nat.pos_of_ne_zero fun h0 => hc (BitVec.eq_of_toNat_eq h0)))
  · next h => exact ⟨by simpa using h, rfl, rfl⟩

/-- The move towards QUIESCED changes the sequencer, an abandoned standby entry, and at QUIESCED the lines (R166). -/
theorem State.quiesceSeq_eq (s : State) :
    s.quiesceSeq =
      { s with
        seq := s.quiesceSeq.seq
        power := s.quiesceSeq.power
        req := s.quiesceSeq.req
        lines := s.quiesceSeq.lines } := by
  unfold State.quiesceSeq State.enterQuiesced State.onLines
  split <;> rw [State.moveSeq_eq]

theorem State.quiesceSeq_line (s : State) (n : LineNo) :
    s.quiesceSeq.line n = if s.visit.isSome then s.line n else (s.line n).quiesce := by
  unfold State.quiesceSeq
  split <;> simp

/-- What the guard's expiry changes (R166). -/
theorem State.guardExpires_eq (s : State) :
    s.guardExpires =
      { s with
        alertLiveness := true
        guardRunning := false
        events := s.guardExpires.events
        overflow := s.guardExpires.overflow
        lost := s.guardExpires.lost
        power := s.guardExpires.power
        req := s.guardExpires.req
        idleBeats := s.guardExpires.idleBeats
        seq := s.guardExpires.seq
        lines := s.guardExpires.lines } := by
  unfold State.guardExpires
  rw [State.quiesceSeq_eq, State.endDoze_eq, State.offer_eq]

theorem State.guardExpires_line (s : State) (n : LineNo) :
    s.guardExpires.line n = if s.visit.isSome then s.line n else (s.line n).quiesce := by
  unfold State.guardExpires
  rw [State.quiesceSeq_line, State.endDoze_visit, State.offer_visit, State.endDoze_line, State.offer_line]
  rfl

theorem State.expireGuard_due (s : State) :
    s.expireGuard.guardDue = false ∧ (s.holdsDue = false → s.expireGuard.holdsDue = false) ∧
      s.expireGuard.timeoutDue = s.timeoutDue ∧ s.expireGuard.tickDue = s.tickDue := by
  unfold State.expireGuard
  split
  · refine ⟨?_, fun h => ?_, ?_, ?_⟩
    · rw [State.guardExpires_eq]
      simp [State.guardDue]
    · rw [State.holdsDue_eq_false] at h ⊢
      intro n
      rw [State.guardExpires_line]
      split <;> simp [h]
    · rw [State.guardExpires_eq]
      rfl
    · rw [State.guardExpires_eq]
      rfl
  · next h => exact ⟨by simpa using h, id, rfl, rfl⟩

/-- A resweep that expires sets ATTN and restarts its count (R41). -/
theorem State.expireResweep_eq (s : State) :
    s.expireResweep =
      { s with
        lines := s.expireResweep.lines
        resweepCount := if s.resweepDue then 0 else s.resweepCount } := by
  unfold State.expireResweep State.onLines
  split <;> rfl

theorem State.expireResweep_line (s : State) (n : LineNo) :
    s.expireResweep.line n = if s.resweepDue then (s.line n).resweep else s.line n := by
  unfold State.expireResweep
  split
  · exact State.line_onLines s n _
  · rfl

theorem Line.resweep_eq (l : Line) : l.resweep = { l with attn := l.attn || !l.faulted } := by
  unfold Line.resweep
  split
  · next h =>
    have hattn : (l.attn || !l.faulted) = l.attn := by simp [h]
    rw [hattn]
  · next h =>
    have hattn : (l.attn || !l.faulted) = true := by simp [h]
    rw [hattn]

theorem State.expireResweep_due (s : State) :
    s.expireResweep.resweepDue = false ∧ (s.holdsDue = false → s.expireResweep.holdsDue = false) ∧
      s.expireResweep.timeoutDue = s.timeoutDue ∧ s.expireResweep.tickDue = s.tickDue ∧
      s.expireResweep.guardDue = s.guardDue := by
  refine ⟨?_, fun h => State.holdsDue_eq_false.2 fun n => ?_, ?_, ?_, ?_⟩
  · rw [State.expireResweep_eq]
    cases hdue : s.resweepDue with
    | false => exact hdue
    | true =>
      simp only [State.resweepDue, Bool.and_eq_false_iff, decide_eq_false_iff_not, bne_eq_false_iff_eq, if_true]
      by_cases hc : s.resweep = 0
      · exact .inl hc
      · exact .inr (Nat.not_le.2 (Nat.pos_of_ne_zero fun h0 => hc (BitVec.eq_of_toNat_eq h0)))
  · rw [State.expireResweep_line, Line.resweep_eq]
    split <;> exact State.holdsDue_eq_false.1 h n
  all_goals rw [State.expireResweep_eq]; rfl

/-- No timer is due once every timer that was has acted. -/
theorem State.finishTimers_timersSettled (s : State) : s.finishTimers.timersSettled = true := by
  obtain ⟨hholds, htimeout⟩ := s.finishVisit_due
  obtain ⟨htick, hholds1, htimeout1⟩ := s.finishVisit.expireTick_due
  obtain ⟨hguard, hholds2, htimeout2, htick2⟩ := s.finishVisit.expireTick.expireGuard_due
  obtain ⟨hresweep, hholds3, htimeout3, htick3, hguard3⟩ := s.finishGuard.expireResweep_due
  rw [hholds] at hholds1
  rw [htimeout] at htimeout1
  have hh := hholds3 (hholds2 hholds1)
  unfold State.finishTimers State.timersSettled
  rw [hh, htimeout3, htick3, hresweep, hguard3]
  unfold State.finishGuard
  rw [htimeout2, htimeout1, htick2, htick, hguard]
  rfl

/-- An automatic doze that was due has been entered, or has ended at once. -/
theorem State.enterAutoDoze_due (s : State) :
    s.enterAutoDoze.autoDozeDue = false ∧ s.enterAutoDoze.timersSettled = s.timersSettled := by
  unfold State.enterAutoDoze
  split
  · rw [State.enterDoze_eq]
    exact ⟨by simp [State.autoDozeDue], rfl⟩
  · next h => exact ⟨by simpa using h, rfl⟩

theorem Line.freeze_eq (l : Line) : l.freeze = { l with receiver := l.freeze.receiver } := by
  unfold Line.freeze
  split <;> rfl

theorem State.enterStandby_line (s : State) (n : LineNo) :
    s.enterStandby.line n = if s.standbyDue then (s.line n).freeze else s.line n := by
  unfold State.enterStandby
  split
  · exact State.line_onLines s n _
  · rfl

/-- What an entry into STANDBY changes (R161). -/
theorem State.enterStandby_eq (s : State) :
    s.enterStandby =
      { s with
        lines := s.enterStandby.lines
        power := if s.standbyDue then .standby else s.power
        wakeEn := s.enterStandby.wakeEn
        wakeLoop := s.enterStandby.wakeLoop
        wakeStart := s.enterStandby.wakeStart
        wakeSense := s.enterStandby.wakeSense } := by
  unfold State.enterStandby State.onLines
  split <;> rfl

theorem State.enterStandby_due (h : s.autoDozeDue = false) :
    s.enterStandby.standbyDue = false ∧ s.enterStandby.autoDozeDue = false ∧
      (s.timersSettled = true → s.enterStandby.timersSettled = true) := by
  cases hs : s.standbyDue with
  | false =>
    have heq : s.enterStandby = s := by simp [State.enterStandby, hs]
    rw [heq]
    exact ⟨hs, h, id⟩
  | true =>
    have hpower : s.enterStandby.power = .standby := by
      rw [State.enterStandby_eq, hs]
      rfl
    refine ⟨by simp [State.standbyDue, hpower], by simp [State.autoDozeDue, State.watchedIdle, hpower], fun ht => ?_⟩
    have hholds : s.enterStandby.holdsDue = s.holdsDue := by
      unfold State.holdsDue
      congr 1
      funext n
      rw [State.enterStandby_line, hs, Line.freeze_eq]
      rfl
    unfold State.timersSettled at ht ⊢
    rw [hholds, State.enterStandby_eq]
    exact ht

/-- The end of the instant as a change of the idle watch, the bar on a doze, and counts kept apart. -/
theorem State.endInstant_line (s : State) (n : LineNo) : s.endInstant.line n = (s.line n).closeCount := by
  have hwatch : ∀ m, s.watchIdle.line m = s.line m := fun m => by
    rw [State.watchIdle_eq]
    rfl
  change s.watchIdle.closeCounts.line n = _
  unfold State.closeCounts
  split
  · rw [State.line_onLines, hwatch]
  · next h =>
    have hnone : (s.line n).countBefore = none := by
      simp only [State.countsOpen, List.any_eq_true, not_exists, not_and, hwatch] at h
      simpa using h n (List.mem_finRange n)
    rw [hwatch, Line.closeCount, ← hnone]

theorem State.endInstant_eq (s : State) :
    s.endInstant =
      { s with
        idleBeats := if s.watchedIdle then s.idleBeats else 0
        dozeBarred := false
        lines := s.endInstant.lines } := by
  unfold State.endInstant State.closeCounts State.onLines
  split <;> rw [State.watchIdle_eq]

/-- The counts that a line keeps apart stand in none of what it needs. -/
theorem State.endInstant_watchedIdle (s : State) : s.endInstant.watchedIdle = s.watchedIdle := by
  have hline := s.endInstant_line
  unfold State.watchedIdle State.idleCondition
  simp only [hline]
  rw [State.endInstant_eq]
  rfl

theorem State.finishInstant_settled_always (s : State) : s.finishInstant.settled = true := by
  have htimers := s.finishTimers_timersSettled
  obtain ⟨hdoze, hsame⟩ := s.finishTimers.enterAutoDoze_due
  obtain ⟨hstandby, hdoze', hkeep⟩ := State.enterStandby_due hdoze
  have ht := hkeep (hsame.trans htimers)
  unfold State.finishInstant
  generalize s.finishTimers.enterAutoDoze.enterStandby = u at hstandby hdoze' ht
  have hline := u.endInstant_line
  have hwatch := u.endInstant_watchedIdle
  simp only [State.timersSettled, Bool.and_eq_true, Bool.not_eq_true'] at ht
  obtain ⟨⟨⟨⟨hholds, htimeout⟩, htick⟩, hresweep⟩, hguard⟩ := ht
  have hholds' : u.endInstant.holdsDue = false :=
    State.holdsDue_eq_false.2 fun n => by
      rw [hline]
      exact State.holdsDue_eq_false.1 hholds n
  have hcounts : u.endInstant.countsOpen = false := by simp [State.countsOpen, hline, Line.closeCount]
  have hmay : u.endInstant.mayDoze = u.mayDoze := by
    unfold State.mayDoze State.anyTxActive
    simp only [hline]
    rw [State.endInstant_eq]
    rfl
  have hdrained : u.endInstant.allDrained = u.allDrained := by
    unfold State.allDrained
    simp only [hline]
    rfl
  have hauto : u.endInstant.autoDozeDue = false := by
    unfold State.autoDozeDue at hdoze' ⊢
    rw [hwatch, hmay, State.endInstant_eq]
    cases hw : u.watchedIdle with
    | false => rfl
    | true => simpa [hw] using hdoze'
  have hstand : u.endInstant.standbyDue = false := by
    unfold State.standbyDue at hstandby ⊢
    rw [hdrained, State.endInstant_eq]
    exact hstandby
  unfold State.settled
  rw [hholds', hauto, hstand, hcounts, hwatch, State.endInstant_eq]
  change (!false && !u.timeoutDue && !u.tickDue && !u.resweepDue && !u.guardDue && !false && !false &&
    (u.watchedIdle || (if u.watchedIdle then u.idleBeats else 0) == 0) && !false && !false) = true
  rw [htimeout, htick, hresweep, hguard]
  cases u.watchedIdle <;> rfl

end Sys2Proof.Machine
end

section
/-! What every command keeps: the waiting commands and the invariants of the event port, of the line units and of the
timers, in one walk through the operations that commands are made of. -/

namespace Sys2Proof.Machine

variable {s t u : State} {n : LineNo} {v : Visit} {f g : State → State}

/-- `t` has the waiting commands of `s` and meets the invariants of the event port, the line units and the timers where
`s` does. -/
structure Keeps (s t : State) : Prop where
  pending : t.pending = s.pending
  port : s.portOk → t.portOk
  units : (∀ n, (s.line n).Sound) → ∀ n, (t.line n).Sound
  timers : s.timersOk → t.timersOk

theorem Keeps.refl (s : State) : Keeps s s := ⟨rfl, id, id, id⟩

theorem Keeps.trans (h : Keeps s t) (h' : Keeps t u) : Keeps s u :=
  ⟨h'.pending.trans h.pending, h'.port ∘ h.port, h'.units ∘ h.units, h'.timers ∘ h.timers⟩

theorem Keeps.ite {c : Prop} [Decidable c] (h : Keeps s t) (h' : Keeps s u) : Keeps s (if c then t else u) := by
  split
  exacts [h, h']

/-! ### Lines, events, moves -/

theorem keeps_setLine {l : Line} (h : (s.line n).Sound → l.Sound) : Keeps s (s.setLine n l) := by
  refine ⟨rfl, id, fun hs m => ?_, id⟩
  rw [State.line_setLine]
  split
  exacts [h (hs n), hs m]

/-- A change of every line is a new vector of lines. -/
theorem State.onLines_spec (s : State) (f : LineNo → Line → Line) :
    ∃ ls : Vector Line 16, (∀ n : LineNo, ls[n] = f n (s.line n)) ∧ s.onLines f = { s with lines := ls } :=
  ⟨_, fun n => State.line_onLines s n f, rfl⟩

theorem keeps_setLines {ls : Vector Line 16} (h : ∀ n : LineNo, (s.line n).Sound → ls[n].Sound) :
    Keeps s { s with lines := ls } := ⟨rfl, id, fun hs n => h n (hs n), id⟩

theorem keeps_onLines {f : LineNo → Line → Line} (h : ∀ n l, l.Sound → (f n l).Sound) : Keeps s (s.onLines f) := by
  obtain ⟨ls, hls, heq⟩ := s.onLines_spec f
  rw [heq]
  exact keeps_setLines fun n hl => by
    rw [hls]
    exact h n _ hl

theorem keeps_offer (e : EventRec) (hage : e.age = 0) : Keeps s (s.offer e) := by
  refine ⟨State.offer_pending e, State.offer_portOk e hage, fun hs m => ?_, fun ht => ?_⟩
  · rw [State.offer_line]
    exact hs m
  · rw [State.offer_eq]
    exact ht

/-- The idle watch keeps its count or restarts it. -/
theorem keeps_setIdleBeats (k : Nat) (hk : k = s.idleBeats ∨ k = 0) : Keeps s { s with idleBeats := k } := by
  refine ⟨rfl, id, id, fun ⟨h1, h2, h3, h4, h5, h6, h7, h8, h9⟩ => ⟨h1, h2, h3, h4, h5, h6, h7, ?_, h9⟩⟩
  rcases hk with rfl | rfl
  exacts [h8, Nat.zero_le _]

theorem keeps_watchIdle : Keeps s s.watchIdle := by
  rw [State.watchIdle_eq]
  refine keeps_setIdleBeats _ ?_
  split <;> simp

theorem keeps_endDoze : Keeps s s.endDoze := by
  rw [State.endDoze_eq]
  have h := keeps_setIdleBeats (s := s) (if s.power = .doze then 0 else s.idleBeats) (by split <;> simp)
  exact ⟨rfl, h.port, h.units, h.timers⟩

theorem keeps_enterDoze : Keeps s s.enterDoze := by
  rw [State.enterDoze_eq]
  have h := keeps_setIdleBeats (s := s) 0 (.inr rfl)
  exact ⟨rfl, h.port, h.units, h.timers⟩

theorem keeps_enterRequestedDoze : Keeps s s.enterRequestedDoze := .ite keeps_enterDoze (.refl s)

theorem keeps_moveSeq (q : SeqState) : Keeps s (s.moveSeq q) := by
  rw [State.moveSeq_eq]
  exact ⟨rfl, id, id, id⟩

theorem keeps_enterQuiesced : Keeps s s.enterQuiesced :=
  (keeps_moveSeq _).trans (keeps_onLines fun _ _ => Line.quiesce_sound)

theorem keeps_settleSeq : Keeps s s.settleSeq := by
  unfold State.settleSeq
  split
  exacts [keeps_moveSeq _, keeps_moveSeq _, keeps_enterQuiesced, .refl s, .refl s, .refl s, .refl s]

theorem keeps_moveThrough (p q : SeqState) : Keeps s (s.moveThrough p q) := .ite (keeps_moveSeq _) (keeps_moveSeq _)

theorem keeps_quiesceSeq : Keeps s s.quiesceSeq := .ite (keeps_moveSeq _) keeps_enterQuiesced

theorem keeps_applyLineReset (n : LineNo) : Keeps s (s.applyLineReset n) := keeps_setLine fun _ => Line.reset_sound

/-! ### Visits and answers -/

theorem keeps_endVisit : Keeps s (endVisit s v) := by
  have hreset : Keeps s (if v.resetHeld then s.applyLineReset v.line else s) :=
    .ite (keeps_applyLineReset _) (.refl s)
  have hfree : Keeps s { (if v.resetHeld then s.applyLineReset v.line else s) with visit := none, mem := none } :=
    ⟨hreset.pending, hreset.port, hreset.units, hreset.timers⟩
  exact (hfree.trans keeps_settleSeq).trans keeps_enterRequestedDoze

/-- What a visit does with its line and the event port is within the invariants. -/
theorem Within.keeps (h : Within n s u) : Keeps s u := by
  refine ⟨?_, h.port, fun hs m => ?_, fun ht => ?_⟩
  · change u.frame.pending = s.frame.pending
    rw [h.frame]
  · by_cases hm : m = n
    · rw [hm]
      exact h.line.sound (hs n)
    · rw [h.other m hm]
      exact hs m
  · change u.frame.timersOk
    rw [h.frame]
    exact ht

theorem Proceeds.keeps (h : Proceeds s v t) : Keeps s t := by
  cases h with
  | issues hw p r a k _ => exact hw.keeps.trans ⟨rfl, id, id, id⟩
  | ends hw => exact hw.keeps.trans keeps_endVisit
  | fails hw x cause =>
    exact hw.keeps.trans
      (((keeps_setLine fun h => Line.tend_sound (Line.fail_sound h)).trans (keeps_offer _ rfl)).trans keeps_endVisit)

theorem keeps_freeEngine : Keeps s s.freeEngine := ⟨rfl, id, id, id⟩

/-- The fault count saturates, and a recorded fault has a cause (R144). -/
theorem keeps_recordFault (x : Txn) (cause : FaultCause) : Keeps s (s.recordFault x cause) := by
  refine ⟨rfl, id, id, fun ⟨h1, h2, h3, h4, h5, h6, h7, h8, _, _, h11⟩ =>
    ⟨h1, h2, h3, h4, h5, h6, h7, h8, Nat.min_le_left _ _, ?_, h11⟩⟩
  simp [State.recordFault]

theorem keeps_txnFault (x : Txn) (cause : FaultCause) : Keeps s (txnFault s v x cause) :=
  (keeps_recordFault x cause).trans (proceeds_txnFault x cause).keeps

theorem keeps_wordArrived (w : Word) : Keeps s (wordArrived s v w) := by
  rcases wordArrived_cases (s := s) (v := v) w with h | ⟨h, -⟩
  · exact h.keeps
  · rw [h]
    exact .refl s

theorem keeps_wordWritten : Keeps s (wordWritten s v) := by
  rcases wordWritten_cases (s := s) (v := v) with h | ⟨h, -⟩
  · exact h.keeps
  · rw [h]
    exact .refl s

theorem keeps_answerWordRead (tag : Nat) (a : WordAnswer) : Keeps s (answerWordRead s tag a) := by
  unfold answerWordRead
  split
  · split
    exacts [keeps_freeEngine.trans (keeps_wordArrived _), keeps_freeEngine.trans (keeps_txnFault _ _), .refl s, .refl s,
      .refl s]
  · exact .refl s

theorem keeps_answerWordWrite (tag : Nat) (a : WriteAnswer) : Keeps s (answerWordWrite s tag a) := by
  unfold answerWordWrite
  split
  · split
    exacts [keeps_freeEngine.trans keeps_wordWritten, keeps_freeEngine.trans (keeps_txnFault _ _), .refl s, .refl s,
      .refl s]
  · exact .refl s

theorem keeps_answerByteWrite (tag : Nat) (a : WriteAnswer) : Keeps s (answerByteWrite s tag a) := by
  unfold answerByteWrite
  split
  · split
    exacts [keeps_freeEngine.trans (proceeds_byteStored _).keeps, keeps_freeEngine.trans (keeps_txnFault _ _), .refl s]
  · exact .refl s

theorem keeps_answerByteRead (tag : Nat) (a : ByteAnswer) : Keeps s (answerByteRead s tag a) := by
  unfold answerByteRead
  split
  · split
    exacts [keeps_freeEngine.trans (proceeds_byteLoaded _).keeps, keeps_freeEngine.trans (keeps_txnFault _ _), .refl s,
      .refl s, .refl s]
  · exact .refl s

theorem keeps_timeOut : Keeps s (timeOut s) := by
  unfold timeOut
  split
  exacts [keeps_freeEngine.trans (keeps_txnFault _ _), .refl s]

theorem keeps_begun (n : LineNo) : Keeps s (s.begun n) := by
  have hposition : Keeps s { s with position := n } := ⟨rfl, id, id, id⟩
  have hcleared : Keeps s (({ s with position := n } : State).setLine n { s.line n with attn := false }) :=
    hposition.trans (keeps_setLine fun h => ⟨h.receive, h.report, h.idle, h.send⟩)
  rcases s.begun_cases n with ⟨-, hbegun⟩ | ⟨-, e, hage, hbegun⟩ <;> rw [hbegun]
  · exact hcleared
  · refine hcleared.trans ((keeps_offer e hage).trans (keeps_setLine fun h => Line.reportStatus_sound ?_))
    rwa [State.offer_line, State.line_setLine_self] at h

theorem keeps_beginVisit (n : LineNo) : Keeps s (beginVisit s n) :=
  (keeps_begun n).trans (proceeds_beginVisit s n).keeps

theorem keeps_nextVisit : Keeps s (nextVisit s) := by
  unfold nextVisit
  split
  · split
    exacts [keeps_beginVisit _, .refl s]
  · exact .refl s

/-! ### What falls due -/

theorem keeps_expireHolds : Keeps s s.expireHolds :=
  .ite (keeps_onLines fun _ _ => Line.setHoldDue_sound) (.refl s)

theorem keeps_expireTimeout : Keeps s s.expireTimeout := .ite keeps_timeOut (.refl s)

theorem keeps_expireTick : Keeps s s.expireTick := by
  unfold State.expireTick
  split
  · refine ⟨rfl, fun ⟨h1, h2, h3, h4, h5, h6⟩ => ⟨h1, h2, h3, h4, ?_, h6⟩, id, fun ⟨h1, h2, _, h4⟩ =>
      ⟨h1, h2, Nat.zero_le _, h4⟩⟩
    dsimp only
    split
    exacts [Nat.min_le_left _ _, h5]
  · exact .refl s

theorem keeps_expireResweep : Keeps s s.expireResweep := by
  refine ⟨?_, fun hp => ?_, fun hs n => ?_, fun ⟨h1, h2, h3, h4, h5⟩ => ?_⟩
  · rw [State.expireResweep_eq]
  · rw [State.expireResweep_eq]
    exact hp
  · rw [State.expireResweep_line]
    split
    exacts [Line.resweep_sound (hs n), hs n]
  · rw [State.expireResweep_eq]
    refine ⟨h1, h2, h3, ?_, h5⟩
    dsimp only
    split
    exacts [Nat.zero_le _, h4]

/-- The guard that expires is armed, and its counter has stopped (R164, R166). -/
theorem keeps_expireGuard : Keeps s s.expireGuard := by
  unfold State.expireGuard
  split
  · next hdue =>
    simp only [State.guardDue, Bool.and_eq_true] at hdue
    have halert : Keeps s { s with alertLiveness := true, guardRunning := false } :=
      ⟨rfl, id, id, fun ⟨h1, h2, h3, h4, h5, h6, _, h8⟩ =>
        ⟨h1, h2, h3, h4, h5, fun hen => ⟨(h6 hen).1, rfl⟩, fun _ => ⟨hdue.1.1, rfl⟩, h8⟩⟩
    exact ((halert.trans (keeps_offer _ rfl)).trans keeps_endDoze).trans keeps_quiesceSeq
  · exact .refl s

theorem keeps_enterAutoDoze : Keeps s s.enterAutoDoze := .ite keeps_enterDoze (.refl s)

theorem keeps_enterStandby : Keeps s s.enterStandby := by
  refine ⟨?_, fun hp => ?_, fun hs n => ?_, fun ht => ?_⟩
  · rw [State.enterStandby_eq]
  · rw [State.enterStandby_eq]
    exact hp
  · rw [State.enterStandby_line]
    split
    exacts [Line.freeze_sound (hs n), hs n]
  · rw [State.enterStandby_eq]
    exact ht

theorem keeps_endInstant : Keeps s s.endInstant := by
  have hcounts : Keeps s.watchIdle s.watchIdle.closeCounts :=
    .ite (keeps_onLines fun _ _ => Line.closeCount_sound) (.refl _)
  have h := keeps_watchIdle.trans hcounts
  exact ⟨h.pending, h.port, h.units, h.timers⟩

theorem keeps_finishVisit : Keeps s s.finishVisit := keeps_expireHolds.trans keeps_expireTimeout

theorem keeps_finishGuard : Keeps s s.finishGuard := (keeps_finishVisit.trans keeps_expireTick).trans keeps_expireGuard

theorem keeps_finishTimers : Keeps s s.finishTimers := keeps_finishGuard.trans keeps_expireResweep

theorem keeps_finishInstant : Keeps s s.finishInstant :=
  ((keeps_finishTimers.trans keeps_enterAutoDoze).trans keeps_enterStandby).trans keeps_endInstant

theorem keeps_beforeAnswer (tag : Nat) : Keeps s (s.beforeAnswer tag) := .ite keeps_expireHolds keeps_finishInstant

theorem keeps_visitNow : Keeps s (visitNow s) := by
  have hnext : Keeps s (nextVisit s.finishInstant) := keeps_finishInstant.trans keeps_nextVisit
  unfold visitNow
  split
  · exact .ite (keeps_watchIdle.trans (keeps_beginVisit _)) hnext
  · exact hnext

/-! ### The beat boundary and the clock -/

/-- Records that grow older together stay in order (R138). -/
theorem older_portOk (h : s.portOk) : State.portOk { s with events := s.events.map EventRec.older } := by
  obtain ⟨hcap, hfull, hlost, hmax, hmissed, -, hsorted⟩ := h
  refine ⟨by simpa using hcap, fun hover => by simpa using hfull hover, hlost, hmax, hmissed, fun e he => ?_, ?_⟩
  · obtain ⟨x, -, rfl⟩ := List.mem_map.1 he
    exact Nat.min_le_left _ _
  · refine List.pairwise_map.2 (hsorted.imp fun {a b} hab => ?_)
    change min 255 (b.age + 1) ≤ min 255 (a.age + 1)
    omega

/-- A boundary at which no timer is due advances the counts within their periods (R2). -/
theorem keeps_countBeat (sense : BitVec 16) (h : s.timersSettled = true) : Keeps s (s.countBeat sense) := by
  simp only [State.timersSettled, Bool.and_eq_true, Bool.not_eq_true'] at h
  obtain ⟨⟨⟨-, htick⟩, hresweep⟩, -⟩ := h
  obtain ⟨ls, hls, heq⟩ := s.onLines_spec fun n l => l.beat s (sense.getLsbD n.val)
  unfold State.countBeat
  rw [heq]
  refine ⟨rfl, fun hp => older_portOk hp, fun hs n => ?_, fun ⟨_, h2, h3, h4, h5, h6, h7, h8, h9⟩ =>
    ⟨Nat.zero_le _, h2, ?_, ?_, ?_, ?_, h7, ?_, h9⟩⟩
  · change ls[n].Sound
    rw [hls]
    exact Line.beat_sound _ (hs n)
  · change s.countCadence ≤ s.cadence.toNat
    unfold State.countCadence
    split
    · exact h3
    · next hc =>
      have hc' : (s.cadence != 0) = true := by simpa using hc
      rw [State.tickDue, hc', Bool.true_and, decide_eq_false_iff_not] at htick
      omega
  · change (if s.resweepCounts then s.resweepCount + 1 else s.resweepCount) ≤ s.resweep.toNat
    split
    · next hc =>
      simp only [State.resweepCounts, Bool.and_eq_true] at hc
      rw [State.resweepDue, hc.1.1, Bool.true_and, decide_eq_false_iff_not] at hresweep
      omega
    · exact h4
  · change (if s.guardCounts then s.guardCount - 1 else s.guardCount) ≤ s.guardPeriod
    split <;> omega
  · intro hen
    obtain ⟨hzero, hstopped⟩ := h6 hen
    refine ⟨?_, hstopped⟩
    change (if s.guardCounts then s.guardCount - 1 else s.guardCount) = 0
    split <;> omega
  · change (if s.watchedIdle then min 2 (s.idleBeats + 1) else s.idleBeats) ≤ 2
    split <;> omega

theorem State.timersSettled_of_settled (h : s.settled = true) : s.timersSettled = true := by
  simp only [State.settled, State.timersSettled, Bool.and_eq_true] at h ⊢
  exact h.1.1.1.1.1

theorem keeps_beat (sense : BitVec 16) (h : s.settled = true) : Keeps s (s.beat sense) := by
  have hcount := keeps_countBeat sense (State.timersSettled_of_settled h)
  have hdoze := hcount.trans keeps_endDoze
  exact .ite (.ite ⟨hdoze.pending, hdoze.port, hdoze.units, hdoze.timers⟩ hcount) (.refl s)

theorem reset_portOk : State.reset.portOk :=
  ⟨Nat.zero_le _, nofun, ⟨nofun, nofun⟩, Nat.zero_le _, Nat.zero_le _, nofun, .nil⟩

theorem keeps_hostReset : Keeps s s.hostReset := by
  refine ⟨rfl, fun _ => reset_portOk, fun _ n => ?_, fun ⟨_, _, _, _, _, _, _, _, _, _, htable⟩ => ?_⟩
  · change (State.reset.line n).Sound
    rw [State.line_reset]
    exact Line.reset_sound
  · exact ⟨Nat.zero_le _, Nat.zero_le _, Nat.zero_le _, Nat.zero_le _, Nat.zero_le _, fun _ => ⟨rfl, rfl⟩, nofun,
      Nat.zero_le _, Nat.zero_le _, ⟨fun _ => rfl, fun _ => rfl⟩, htable⟩

theorem keeps_pinReset : Keeps s s.pinReset := by
  refine ⟨rfl, fun _ => reset_portOk, fun _ n => ?_, fun _ => ?_⟩
  · change (State.reset.line n).Sound
    rw [State.line_reset]
    exact Line.reset_sound
  · exact ⟨Nat.zero_le _, Nat.zero_le _, Nat.zero_le _, Nat.zero_le _, Nat.zero_le _, fun _ => ⟨rfl, rfl⟩, nofun,
      Nat.zero_le _, Nat.zero_le _, ⟨fun _ => rfl, fun _ => rfl⟩, (by decide : (0 : Word) &&& 0x3FF = 0)⟩

theorem keeps_offerWake (n : LineNo) : Keeps s (s.offerWake n) := .ite (keeps_offer _ rfl) (.refl s)

theorem keeps_offerWakes : Keeps s s.offerWakes := by
  unfold State.offerWakes
  generalize List.finRange 16 = ns
  induction ns generalizing s with
  | nil => exact .refl s
  | cons n ns ih => exact (keeps_offerWake n).trans ih

theorem keeps_wake : Keeps s s.wake := by
  obtain ⟨ls, hls, heq⟩ := s.onLines_spec fun _ l => l.wake
  have hlines : ∀ n : LineNo, (s.line n).Sound → ls[n].Sound := fun n hl => by
    rw [hls]
    exact Line.wake_sound hl
  unfold State.wake
  rw [heq]
  refine Keeps.trans (t := { s with lines := ls, power := .active, req := .active, beatClocks := 0, settleClocks := 0 })
    ⟨rfl, id, (keeps_setLines hlines).units, fun ⟨_, _, h3⟩ => ⟨Nat.zero_le _, Nat.zero_le _, h3⟩⟩ keeps_offerWakes

theorem keeps_wakingEnds : Keeps s s.wakingEnds := .ite (.ite keeps_hostReset keeps_wake) (.refl s)

theorem keeps_untold (h : Keeps s (f s)) : Keeps s (s.untold f) :=
  (h.trans keeps_watchIdle).trans keeps_finishInstant

/-- What comes untold leaves nothing due. -/
theorem State.endSettle_settled (h : s.settled = true) : s.endSettle.settled = true := by
  unfold State.endSettle
  split
  exacts [State.finishInstant_settled_always _, h]

theorem keeps_endLines : Keeps s s.endLines := by
  have hlines : Keeps s (s.onLines fun _ l => l.endCounts s) := keeps_onLines fun _ _ => Line.endCounts_sound
  exact .ite (hlines.trans keeps_endDoze) hlines

theorem keeps_endCounts (h : s.settled = true) : Keeps s s.endCounts := by
  have hsettle : Keeps s s.endSettle := .ite (keeps_untold keeps_wakingEnds) (.refl s)
  have hbeat : Keeps s.endSettle s.endSettle.endBeat :=
    .ite (keeps_untold (keeps_beat _ (State.endSettle_settled h))) (.refl _)
  have hboth := hsettle.trans hbeat
  exact .ite (hboth.trans (keeps_untold keeps_endLines)) hboth

theorem keeps_countClock : Keeps s s.countClock := by
  obtain ⟨ls, hls, heq⟩ := s.onLines_spec fun _ l => l.clock s
  have hlines : ∀ n : LineNo, (s.line n).Sound → ls[n].Sound := fun n hl => by
    rw [hls]
    exact Line.clock_sound hl
  have hrun : Keeps s
      { s.onLines fun _ l => l.clock s with beatClocks := min Config.clocksPerBeat (s.beatClocks + 1) } := by
    rw [heq]
    exact ⟨rfl, id, (keeps_setLines hlines).units, fun ⟨_, h⟩ => ⟨Nat.min_le_left _ _, h⟩⟩
  unfold State.countClock
  split
  · exact hrun
  · exact hrun
  · exact hrun
  · exact ⟨rfl, id, id, fun ⟨h1, _, h3⟩ => ⟨h1, Nat.min_le_left _ _, h3⟩⟩
  · exact .refl s

theorem keeps_clockTick (h : s.settled = true) : Keeps s s.clockTick := (keeps_endCounts h).trans keeps_countClock

/-! ### Reads and writes of the window -/

theorem keeps_refuseWrite : Keeps s s.refuseWrite := ⟨rfl, id, id, id⟩

theorem keeps_refuseCommand : Keeps s s.refuseCommand := ⟨rfl, id, id, id⟩

theorem keeps_gated (h : ∀ u, Keeps u (f u)) : Keeps s (s.gated f) := .ite keeps_refuseWrite (h s)

theorem keeps_commanded (h : ∀ u, Keeps u (f u)) : Keeps s (s.commanded f) :=
  keeps_gated fun u => keeps_endDoze.trans (h u.endDoze)

/-- The LOSS marker joins where the head leaves, and the overflow is over (R129). -/
theorem keeps_takeEvent : Keeps s s.takeEvent := by
  cases hev : s.events with
  | nil =>
    rw [State.takeEvent_nil hev]
    exact ⟨rfl, id, id, id⟩
  | cons e rest =>
    rw [State.takeEvent_cons hev]
    split
    · refine ⟨rfl, fun ⟨hcap, _, _, _, hmissed, hages, hsorted⟩ => ?_, id, id⟩
      rw [hev] at hcap hages hsorted
      refine ⟨by simpa using hcap, nofun, ⟨nofun, nofun⟩, Nat.zero_le _, hmissed, fun x hx => ?_, ?_⟩
      · rcases List.mem_append.1 hx with hx | hx
        · exact hages x (List.mem_cons_of_mem _ hx)
        · rw [List.mem_singleton.1 hx]
          exact Nat.zero_le _
      · refine List.pairwise_append.2 ⟨(List.pairwise_cons.1 hsorted).2, List.pairwise_singleton _ _, fun x _ y hy => ?_⟩
        rw [List.mem_singleton.1 hy]
        exact Nat.zero_le _
    · next hclear =>
      refine ⟨rfl, fun ⟨hcap, _, hlost, hmax, hmissed, hages, hsorted⟩ => ?_, id, id⟩
      rw [hev] at hcap hages hsorted
      exact ⟨Nat.le_of_succ_le hcap, fun hover => absurd hover hclear, hlost, hmax, hmissed,
        fun x hx => hages x (List.mem_cons_of_mem _ hx), (List.pairwise_cons.1 hsorted).2⟩

theorem keeps_readRegister (lanes : Lanes) (r : Reg) : Keeps s (s.readRegister lanes r) := by
  have heffect : Keeps s (s.readEffect r) := by
    cases r with
    | eventTake => exact keeps_takeEvent
    | eventLevel => exact ⟨rfl, fun ⟨h1, h2, h3, h4, _, h6⟩ => ⟨h1, h2, h3, h4, Nat.zero_le _, h6⟩, id, id⟩
    | conData => exact .ite (keeps_setLine Line.pop_sound) (.refl s)
    | conStatus => exact .ite ⟨rfl, id, id, id⟩ (.refl s)
    | _ => exact ⟨rfl, id, id, id⟩
  exact ⟨heffect.pending, heffect.port, heffect.units, heffect.timers⟩

theorem keeps_resetLineCmd (n : LineNo) : Keeps s (s.resetLineCmd n) := by
  have hnow := (keeps_applyLineReset (s := s) n).trans keeps_enterRequestedDoze
  unfold State.resetLineCmd
  split
  · exact .ite ⟨rfl, id, id, id⟩ hnow
  · exact hnow

/-- The context of a line may be marked. -/
theorem keeps_mark {f : Line → Line}
    (h : ∀ l, f l = { l with attn := (f l).attn, rxCancel := (f l).rxCancel, txCancel := (f l).txCancel })
    (n : LineNo) : Keeps s (s.onLine n f) :=
  keeps_setLine fun hl => by
    rw [h]
    exact ⟨hl.receive, hl.report, hl.idle, hl.send⟩

theorem keeps_ring (value : Word) : Keeps s (s.ring value) :=
  .ite (keeps_onLines fun _ _ hl => ⟨hl.receive, hl.report, hl.idle, hl.send⟩) (keeps_mark (fun _ => rfl) _)

theorem keeps_lineOperation (value : Word) : Keeps s (s.lineOperation value) := by
  unfold State.lineOperation
  split
  exacts [keeps_mark (fun _ => rfl) _, keeps_mark (fun _ => rfl) _, keeps_resetLineCmd _, keeps_refuseCommand]

theorem keeps_start : Keeps s s.start := by
  unfold State.start
  split
  exacts [keeps_moveSeq _, keeps_moveSeq _, keeps_refuseCommand, keeps_refuseCommand, keeps_refuseCommand,
    keeps_refuseCommand, keeps_refuseCommand]

theorem keeps_stop : Keeps s s.stop := by
  unfold State.stop
  split
  exacts [keeps_moveThrough _ _, keeps_moveThrough _ _, keeps_moveSeq _, keeps_refuseCommand, keeps_refuseCommand,
    keeps_refuseCommand, keeps_refuseCommand]

theorem keeps_pause : Keeps s s.pause := by
  unfold State.pause
  split
  exacts [keeps_moveThrough _ _, keeps_refuseCommand, keeps_refuseCommand, keeps_refuseCommand, keeps_refuseCommand,
    keeps_refuseCommand, keeps_refuseCommand]

theorem keeps_resume : Keeps s s.resume := by
  unfold State.resume
  split
  exacts [keeps_moveSeq _, keeps_moveSeq _, keeps_refuseCommand, keeps_refuseCommand, keeps_refuseCommand,
    keeps_refuseCommand, keeps_refuseCommand]

/-- The idle watch restarts, and the power state and its request change. -/
theorem keeps_setPower (p : PowerState) (r : PowerReq) (auto : Bool) :
    Keeps s { s with power := p, req := r, autoDoze := auto, idleBeats := 0 } := by
  have h := keeps_setIdleBeats (s := s) 0 (.inr rfl)
  exact ⟨rfl, h.port, h.units, h.timers⟩

theorem keeps_reqActive (auto : Bool) : Keeps s (s.reqActive auto) := by
  unfold State.reqActive
  split
  exacts [keeps_endDoze.trans (keeps_setPower _ _ _), keeps_endDoze.trans (keeps_setPower _ _ _), keeps_setPower _ _ _,
    keeps_setPower _ _ _, keeps_setPower _ _ _]

theorem keeps_reqDoze (auto : Bool) : Keeps s (s.reqDoze auto) := by
  have hdoze : Keeps s (s.endDoze.storeReq .doze auto).enterRequestedDoze :=
    (keeps_endDoze.trans (keeps_setPower _ _ _)).trans keeps_enterRequestedDoze
  unfold State.reqDoze
  split
  exacts [hdoze, hdoze, (keeps_setPower _ _ _).trans keeps_enterRequestedDoze, keeps_refuseWrite, keeps_refuseWrite]

theorem keeps_reqStandby (auto : Bool) : Keeps s (s.reqStandby auto) := by
  have hentry : Keeps s
      (if s.mayStandby then { s.endDoze.storeReq .standby auto with power := .standbyEntry }
      else s.endDoze.refuseWrite) :=
    .ite (keeps_endDoze.trans (keeps_setPower _ _ _)) (keeps_endDoze.trans keeps_refuseWrite)
  unfold State.reqStandby
  split
  exacts [hentry, hentry, keeps_setPower _ _ _, keeps_refuseWrite, keeps_refuseWrite]

theorem keeps_writePower (value : Word) : Keeps s (s.writePower value) := by
  unfold State.writePower
  split
  exacts [keeps_reqActive _, keeps_reqDoze _, keeps_reqStandby _, keeps_endDoze.trans keeps_refuseWrite]

theorem keeps_commandReset : Keeps s s.commandReset := by
  unfold State.commandReset
  split
  exacts [⟨rfl, id, id, id⟩, ⟨rfl, id, id, id⟩, keeps_hostReset, keeps_hostReset, keeps_hostReset]

/-- An unarmed guard is armed with its counter loaded; an armed one is left (R164). -/
theorem keeps_writeControl (value : Word) : Keeps s (s.writeControl value) := by
  refine keeps_gated fun u => ?_
  split
  · next harm =>
    simp only [Bool.and_eq_true, Bool.not_eq_true'] at harm
    refine ⟨rfl, id, id, fun ⟨h1, h2, h3, h4, _, _, h7, h8⟩ => ⟨h1, h2, h3, h4, Nat.le_refl _, nofun, fun halert => ?_, h8⟩⟩
    exact absurd (harm.2.symm.trans (h7 halert).1) (by decide)
  · exact ⟨rfl, id, id, id⟩

theorem keeps_writeKeepalive (value : Word) : Keeps s (s.writeKeepalive value) := by
  refine keeps_gated fun u => ?_
  unfold State.key
  refine .ite ⟨rfl, id, id, id⟩ (.ite ?_ ⟨rfl, id, id, id⟩)
  refine ⟨rfl, id, id, fun ⟨h1, h2, h3, h4, h5, h6, h7, h8⟩ => ⟨h1, h2, h3, h4, ?_, fun hen => ?_, h7, h8⟩⟩
  · change (if u.livenessEn && u.guardRunning then u.guardPeriod else u.guardCount) ≤ u.guardPeriod
    split
    exacts [Nat.le_refl _, h5]
  · have hen' : u.livenessEn = false := hen
    simpa [hen'] using h6 hen

/-- LIVENESS_PERIOD changes only while the counter of the unarmed guard stands at 0 (R164). -/
theorem keeps_writeLivenessPeriod (value : Word) : Keeps s (s.writeLivenessPeriod value) := by
  refine keeps_gated fun u => ?_
  split
  · exact keeps_refuseWrite
  · next hen =>
    refine ⟨rfl, id, id, fun ⟨h1, h2, h3, h4, _, h6, h7⟩ => ⟨h1, h2, h3, h4, ?_, h6, h7⟩⟩
    change u.guardCount ≤ _
    rw [(h6 (by simpa using hen)).1]
    exact Nat.zero_le _

theorem keeps_writeTableBase (value : Word) : Keeps s (s.writeTableBase value) := by
  refine keeps_gated fun u => .ite ⟨rfl, id, id, fun ⟨h1, h2, h3, h4, h5, h6, h7, h8, h9, h10, _⟩ =>
    ⟨h1, h2, h3, h4, h5, h6, h7, h8, h9, h10, ?_⟩⟩ keeps_refuseWrite
  change (value &&& 0xFFFFFC00) &&& 0x3FF = 0
  rw [BitVec.and_assoc, show (0xFFFFFC00 : Word) &&& 0x3FF = 0#32 by decide, BitVec.and_zero]
  rfl

theorem keeps_writeCustomDivisor (value : Word) : Keeps s (s.writeCustomDivisor value) :=
  keeps_gated fun _ => ⟨rfl, id, id, id⟩

theorem keeps_writeCoalesce (value : Word) : Keeps s (s.writeCoalesce value) :=
  keeps_gated fun _ => ⟨rfl, id, id, id⟩

theorem keeps_writeClassIndex (value : Word) : Keeps s (s.writeClassIndex value) :=
  keeps_gated fun _ => ⟨rfl, id, id, id⟩

theorem keeps_writeLineSelect (value : Word) : Keeps s (s.writeLineSelect value) :=
  keeps_gated fun _ => ⟨rfl, id, id, id⟩

theorem keeps_writeCadence (value : Word) : Keeps s (s.writeCadence value) :=
  keeps_gated fun _ => ⟨rfl, id, id, fun ⟨h1, h2, _, h4⟩ => ⟨h1, h2, Nat.zero_le _, h4⟩⟩

theorem keeps_writeResweep (value : Word) : Keeps s (s.writeResweep value) :=
  keeps_gated fun _ => ⟨rfl, id, id, fun ⟨h1, h2, h3, _, h5⟩ => ⟨h1, h2, h3, Nat.zero_le _, h5⟩⟩

theorem keeps_putLine {l : Line} (h : (s.line n).Sound → l.Sound) : Keeps s (s.putLine n l) :=
  .ite ((keeps_setLine h).trans keeps_endDoze) (keeps_setLine h)

/-- A setting that changes FRAMED is accepted only over a drained transmitter (R65). -/
theorem keeps_writeLineSetting (value : Word) : Keeps s (s.writeLineSetting value) := by
  refine keeps_gated fun u => ?_
  split
  · next h =>
    refine keeps_putLine (Line.applySetting_sound value fun hframed => ?_)
    have haccept := h.2
    simp only [Line.acceptsSetting, Bool.and_eq_true, Bool.or_eq_true, beq_iff_eq] at haccept
    exact Line.shifter_of_drained (haccept.1.2.resolve_left hframed).2
  · exact keeps_refuseWrite

theorem keeps_writeLineFrame (value : Word) : Keeps s (s.writeLineFrame value) :=
  keeps_gated fun _ => .ite (keeps_setLine fun h => ⟨h.receive, h.report, h.idle, h.send⟩) keeps_refuseWrite

theorem keeps_writeConData (value : Word) : Keeps s (s.writeConData value) := by
  refine keeps_gated fun u => .ite (.ite ?_ ⟨rfl, id, id, id⟩) keeps_refuseWrite
  exact keeps_setLine fun h => Line.tend_sound (Line.setHolding_sound _ (u.line 0).ownByte (u.line 0).txOrder h)

theorem keeps_writeClassData (value : Word) : Keeps s (s.writeClassData value) :=
  keeps_gated fun _ => ⟨rfl, id, id, id⟩

theorem keeps_writeCommand (value : Word) : Keeps s (s.writeCommand value) := by
  unfold State.writeCommand
  split
  exacts [keeps_commanded fun _ => keeps_start, keeps_commanded fun _ => keeps_stop,
    keeps_commanded fun _ => keeps_pause, keeps_commanded fun _ => keeps_resume, keeps_commandReset,
    keeps_commanded fun _ => keeps_refuseCommand]

theorem keeps_writeRegister (r : Reg) (value : Word) : Keeps s (s.writeRegister r value) := by
  cases r with
  | command => exact keeps_writeCommand value
  | lineCmd => exact keeps_commanded fun _ => keeps_lineOperation value
  | doorbell => exact keeps_commanded fun _ => keeps_ring value
  | power => exact keeps_writePower value
  | control => exact keeps_writeControl value
  | keepalive => exact keeps_writeKeepalive value
  | livenessPeriod => exact keeps_writeLivenessPeriod value
  | tableBase => exact keeps_writeTableBase value
  | customDivisor => exact keeps_writeCustomDivisor value
  | coalesce => exact keeps_writeCoalesce value
  | classIndex => exact keeps_writeClassIndex value
  | lineSelect => exact keeps_writeLineSelect value
  | cadence => exact keeps_writeCadence value
  | resweep => exact keeps_writeResweep value
  | classData => exact keeps_writeClassData value
  | lineSetting => exact keeps_writeLineSetting value
  | lineFrame => exact keeps_writeLineFrame value
  | conData => exact keeps_writeConData value
  | ident | status | eventPeek | eventTake | eventLevel | faultAddr | faultDesc | conStatus | lineState | lineCounts =>
    exact keeps_refuseWrite

theorem keeps_writeOffset (offset : BitVec 8) (lanes : Lanes) (value : Word) :
    Keeps s (s.writeOffset offset lanes value) := by
  unfold State.writeOffset
  split
  exacts [.refl s, .ite (keeps_writeRegister _ _) keeps_refuseWrite]

/-! ### Instants of a line -/

theorem keeps_atLine {f : Line → Line} (h : ∀ l, l.Sound → (f l).Sound) : Keeps s (s.atLine n f) :=
  .ite (keeps_setLine (h _)) (.refl s)

theorem keeps_completeAt (data : Byte) (parityBit stopBit : Bool) :
    Keeps s (s.completeAt n data parityBit stopBit) :=
  .ite (keeps_putLine (Line.complete_sound _)) (.refl s)

theorem keeps_idleAt : Keeps s (s.idleAt n) :=
  .ite ((keeps_setLine Line.setIdleDue_sound).trans keeps_endDoze) (.refl s)

theorem keeps_wakeEdges (starts senses : BitVec 16) : Keeps s (s.wakeEdges starts senses) :=
  .ite ⟨rfl, id, id, id⟩ (.refl s)

/-! ### Commands -/

theorem keeps_of_command (hf : ∀ u : State, u.settled = true → Keeps u (f u)) (h : command f s = .next t) :
    Keeps s t := by
  cases h
  exact (keeps_finishInstant.trans (hf _ s.finishInstant_settled_always)).trans keeps_watchIdle

theorem keeps_of_expiry (hf : Keeps s (f s)) (h : expiry f s = .next t) : Keeps s t := by
  cases h
  exact hf.trans keeps_watchIdle

theorem keeps_of_answered {tag : Nat} (hf : ∀ u, Keeps u (f u)) (h : answered tag f s = .next t) : Keeps s t := by
  cases h
  exact ((keeps_beforeAnswer tag).trans (hf _)).trans keeps_watchIdle

theorem keeps_of_exec {c : Instr} (h : exec c s = .next t) : Keeps s t := by
  cases c with
  | start =>
    rw [exec_start] at h
    exact keeps_of_command (fun u _ => keeps_commanded fun _ => keeps_start) h
  | stop =>
    rw [exec_stop] at h
    exact keeps_of_command (fun u _ => keeps_commanded fun _ => keeps_stop) h
  | pause =>
    rw [exec_pause] at h
    exact keeps_of_command (fun u _ => keeps_commanded fun _ => keeps_pause) h
  | resume =>
    rw [exec_resume] at h
    exact keeps_of_command (fun u _ => keeps_commanded fun _ => keeps_resume) h
  | hostReset =>
    rw [exec_hostReset] at h
    exact keeps_of_command (fun u _ => keeps_commandReset) h
  | pinReset =>
    cases h
    exact keeps_pinReset
  | cancelRx value | cancelTx value =>
    simp only [exec_cancelRx, exec_cancelTx] at h
    exact keeps_of_command (fun u _ => keeps_commanded fun _ => keeps_mark (fun _ => rfl) _) h
  | resetLine value =>
    rw [exec_resetLine] at h
    exact keeps_of_command (fun u _ => keeps_commanded fun _ => keeps_resetLineCmd _) h
  | doorbell value =>
    rw [exec_doorbell] at h
    exact keeps_of_command (fun u _ => keeps_commanded fun _ => keeps_ring value) h
  | reqActive value =>
    rw [exec_reqActive] at h
    exact keeps_of_command (fun u _ => keeps_reqActive _) h
  | reqDoze value =>
    rw [exec_reqDoze] at h
    exact keeps_of_command (fun u _ => keeps_reqDoze _) h
  | reqStandby value =>
    rw [exec_reqStandby] at h
    exact keeps_of_command (fun u _ => keeps_reqStandby _) h
  | control value =>
    rw [exec_control] at h
    exact keeps_of_command (fun u _ => keeps_writeControl value) h
  | keepalive value =>
    rw [exec_keepalive] at h
    exact keeps_of_command (fun u _ => keeps_writeKeepalive value) h
  | livenessPeriod value =>
    rw [exec_livenessPeriod] at h
    exact keeps_of_command (fun u _ => keeps_writeLivenessPeriod value) h
  | tableBase value =>
    rw [exec_tableBase] at h
    exact keeps_of_command (fun u _ => keeps_writeTableBase value) h
  | lineSetting value =>
    rw [exec_lineSetting] at h
    exact keeps_of_command (fun u _ => keeps_writeLineSetting value) h
  | lineFrame value =>
    rw [exec_lineFrame] at h
    exact keeps_of_command (fun u _ => keeps_writeLineFrame value) h
  | customDivisor value =>
    rw [exec_customDivisor] at h
    exact keeps_of_command (fun u _ => keeps_writeCustomDivisor value) h
  | coalesce value =>
    rw [exec_coalesce] at h
    exact keeps_of_command (fun u _ => keeps_writeCoalesce value) h
  | cadence value =>
    rw [exec_cadence] at h
    exact keeps_of_command (fun u _ => keeps_writeCadence value) h
  | resweep value =>
    rw [exec_resweep] at h
    exact keeps_of_command (fun u _ => keeps_writeResweep value) h
  | classDataWrite value =>
    rw [exec_classDataWrite] at h
    exact keeps_of_command (fun u _ => keeps_writeClassData value) h
  | conDataWrite value =>
    rw [exec_conDataWrite] at h
    exact keeps_of_command (fun u _ => keeps_writeConData value) h
  | classDataRead lanes | conDataRead lanes | conStatus lanes | eventTake lanes | eventLevel lanes | status lanes =>
    simp only [exec_classDataRead, exec_conDataRead, exec_conStatus, exec_eventTake, exec_eventLevel, exec_status] at h
    exact keeps_of_command (fun u _ => keeps_readRegister lanes _) h
  | registerWrite offset lanes value =>
    rw [exec_registerWrite] at h
    exact keeps_of_command (fun u _ => keeps_writeOffset offset lanes value) h
  | visit =>
    rw [exec_visit] at h
    exact keeps_of_expiry (f := fun s => visitNow s.finishGuard) (keeps_finishGuard.trans keeps_visitNow) h
  | wordRead txn answer =>
    rw [exec_wordRead] at h
    exact keeps_of_answered (fun u => keeps_answerWordRead txn answer) h
  | wordWrite txn answer =>
    rw [exec_wordWrite] at h
    exact keeps_of_answered (fun u => keeps_answerWordWrite txn answer) h
  | byteWrite txn answer =>
    rw [exec_byteWrite] at h
    exact keeps_of_answered (fun u => keeps_answerByteWrite txn answer) h
  | byteRead txn answer =>
    rw [exec_byteRead] at h
    exact keeps_of_answered (fun u => keeps_answerByteRead txn answer) h
  | timeout =>
    rw [exec_timeout] at h
    exact keeps_of_expiry keeps_finishVisit h
  | completion line data parityBit stopBit =>
    rw [exec_completion] at h
    exact keeps_of_command (fun u _ => keeps_completeAt data parityBit stopBit) h
  | breakSeen line =>
    rw [exec_breakSeen] at h
    exact keeps_of_command (fun u _ => keeps_completeAt 0 false false) h
  | recoverEnd line =>
    rw [exec_recoverEnd] at h
    exact keeps_of_command (fun u _ => keeps_atLine fun _ => Line.recoverEnds_sound) h
  | shifterEmpty line =>
    rw [exec_shifterEmpty] at h
    exact keeps_of_command (fun u _ => keeps_atLine fun _ => Line.tellEmpty_sound) h
  | breakDone line =>
    rw [exec_breakDone] at h
    exact keeps_of_command (fun u _ => keeps_atLine fun _ => Line.tellBreakDone_sound) h
  | idleDue line =>
    rw [exec_idleDue] at h
    exact keeps_of_command (fun u _ => keeps_idleAt) h
  | fallingEdge line =>
    rw [exec_fallingEdge] at h
    exact keeps_of_command (fun u _ => keeps_atLine fun _ => Line.fallingEdge_sound) h
  | startBitSample line level =>
    rw [exec_startBitSample] at h
    exact keeps_of_command (fun u _ => keeps_atLine fun _ => Line.startSample_sound _) h
  | beatBoundary sense =>
    rw [exec_beatBoundary] at h
    exact keeps_of_command (fun u hu => keeps_beat sense hu) h
  | resweepExpiry =>
    rw [exec_resweepExpiry] at h
    exact keeps_of_expiry keeps_expireResweep h
  | tick =>
    rw [exec_tick] at h
    exact keeps_of_expiry keeps_expireTick h
  | holdDue line =>
    rw [exec_holdDue] at h
    exact keeps_of_expiry (f := fun s => s.expireHold line) (keeps_setLine Line.setHoldDue_sound) h
  | guardExpiry =>
    rw [exec_guardExpiry] at h
    exact keeps_of_expiry (keeps_finishVisit.trans keeps_expireGuard) h
  | automaticDoze =>
    rw [exec_automaticDoze] at h
    exact keeps_of_expiry (keeps_finishTimers.trans keeps_enterAutoDoze) h
  | standby =>
    rw [exec_standby] at h
    exact keeps_of_expiry keeps_finishInstant h
  | wakeEdge starts senses =>
    rw [exec_wakeEdge] at h
    exact keeps_of_command (fun u _ => keeps_wakeEdges starts senses) h
  | wakingEnd =>
    rw [exec_wakingEnd] at h
    exact keeps_of_command (fun u _ => keeps_wakingEnds) h

/-- A step keeps the three invariants: those of the command at the front, or of one clock period. -/
theorem keeps_of_step (h : step s = .next t) :
    (s.portOk → t.portOk) ∧ (s.unitsOk → t.unitsOk) ∧ (s.timersOk → t.timersOk) := by
  have hkeeps : ∃ q, Keeps (s.withPending q) t := by
    unfold step at h
    split at h
    · next hq => exact ⟨s.pending, keeps_of_command (fun u hu => keeps_clockTick hu) h⟩
    · next c rest _ => exact ⟨rest, keeps_of_exec h⟩
  obtain ⟨q, hk⟩ := hkeeps
  exact ⟨hk.port, fun hs n => Line.unitOk_iff_sound.2 (hk.units (fun m => Line.unitOk_iff_sound.1 (hs m)) n), hk.timers⟩

/-! ### The statements -/

/-- Settles O33: every operation of a step keeps the event port's invariant. -/
theorem stepsKeepTheEventPort : Obligations.StepsKeepTheEventPort := by
  unfold Obligations.StepsKeepTheEventPort
  exact fun s t hs h => (keeps_of_step h).1 hs

/-- Settles O34: every operation of a step changes lines by operations that keep the invariant of a line unit. -/
theorem stepsKeepTheLineUnits : Obligations.StepsKeepTheLineUnits := by
  unfold Obligations.StepsKeepTheLineUnits
  exact fun s t hs h => (keeps_of_step h).2.1 hs

/-- Settles O35: every operation of a step keeps the timers within their periods; a beat boundary, because no timer is
due when it counts. -/
theorem stepsKeepTheTimers : Obligations.StepsKeepTheTimers := by
  unfold Obligations.StepsKeepTheTimers
  exact fun s t hs h => (keeps_of_step h).2.2 hs

/-- Settles O2: each arm of `exec` answers a next state, and no operation touches the waiting commands. -/
theorem commandsCompleteAndLeaveTheQueue : Obligations.CommandsCompleteAndLeaveTheQueue := by
  unfold Obligations.CommandsCompleteAndLeaveTheQueue
  intro c s
  obtain ⟨t, ht⟩ : ∃ t, exec c s = .next t := by cases c <;> exact ⟨_, rfl⟩
  exact ⟨t, ht, (keeps_of_exec ht).pending⟩

end Sys2Proof.Machine
end

section
/-! The sequencer, the memory engine and the power state stay consistent (R24, R29, R142, R158, R160): what an operation
leaves of the fields the invariant reads, what a visit comes to, and the moves between the power states. -/

namespace Sys2Proof.Machine

variable {s t u : State} {l : Line} {n : LineNo} {v : Visit} {f g : State → State}

/-! ### The fields the invariant reads -/

/-- What the invariant reads of a line: FAULTED and its two orders. -/
def Line.duty (l : Line) : Bool × Option RxOrder × Option TxOrder := (l.faulted, l.rxOrder, l.txOrder)

/-- What the invariant reads of the state beside its lines. -/
def State.standing (s : State) : (Option Visit × Option Txn × Nat) × (SeqState × PowerState × PowerReq) ×
    (Bool × Bool × Bool × Nat) :=
  ((s.visit, s.mem, s.txnCount), (s.seq, s.power, s.req),
    (s.alertLiveness, s.livenessEn, s.guardRunning, s.guardCount))

/-- `t` stands where `s` does: nothing the invariant reads has changed. -/
structure Stands (s t : State) : Prop where
  standing : t.standing = s.standing
  duty : ∀ n, (t.line n).duty = (s.line n).duty

theorem Stands.refl (s : State) : Stands s s := ⟨rfl, fun _ => rfl⟩

theorem Stands.trans (h : Stands s t) (h' : Stands t u) : Stands s u :=
  ⟨h'.standing.trans h.standing, fun n => (h'.duty n).trans (h.duty n)⟩

theorem Stands.ite {c : Prop} [Decidable c] (h : Stands s t) (h' : Stands s u) : Stands s (if c then t else u) := by
  split
  exacts [h, h']

theorem Stands.anyTxActive (h : Stands s t) : t.anyTxActive = s.anyTxActive := by
  unfold State.anyTxActive
  congr 1
  funext n
  rw [(Prod.mk.inj (Prod.mk.inj (h.duty n)).2).2]

theorem Stands.controlOk (h : Stands s t) (hs : s.controlOk) : t.controlOk := by
  have hactive := h.anyTxActive
  obtain ⟨hfields, hduty⟩ := h
  simp only [State.standing, Prod.mk.injEq] at hfields
  obtain ⟨⟨hvisit, hmem, hcount⟩, ⟨hseq, hpower, hreq⟩, halert, hen, hrun, hguard⟩ := hfields
  simp only [Line.duty, Prod.mk.injEq] at hduty
  simp only [State.controlOk, State.quiet, State.windowShut, State.guardDue, hvisit, hmem, hcount, hseq, hpower, hreq,
    halert, hen, hrun, hguard, hactive]
  refine ⟨hs.1, hs.2.1, hs.2.2.1, hs.2.2.2.1, hs.2.2.2.2.1, hs.2.2.2.2.2.1, hs.2.2.2.2.2.2.1, hs.2.2.2.2.2.2.2.1,
    fun n hn => ?_⟩
  obtain ⟨hfaulted, hrx, htx⟩ := hduty n
  rw [hrx, htx]
  exact hs.2.2.2.2.2.2.2.2 n (hfaulted ▸ hn)

theorem stands_setLine (h : l.duty = (s.line n).duty) : Stands s (s.setLine n l) := by
  refine ⟨rfl, fun m => ?_⟩
  rw [State.line_setLine]
  split
  · next hm => rw [h, hm]
  · rfl

theorem stands_onLines {f : LineNo → Line → Line} (h : ∀ n l, (f n l).duty = l.duty) : Stands s (s.onLines f) := by
  obtain ⟨ls, hls, heq⟩ := s.onLines_spec f
  rw [heq]
  refine ⟨rfl, fun n => ?_⟩
  change ls[n].duty = _
  rw [hls, h]

/-! ### Operations of a line -/

theorem Line.tend_duty (s : State) (l : Line) : (Line.tend s l).duty = l.duty := by
  rw [Line.tend_eq]
  rfl

theorem Line.shifterEnds_duty (s : State) (l : Line) : (l.shifterEnds s).duty = l.duty := by
  unfold Line.shifterEnds
  split
  · exact Line.tend_duty _ _
  · exact Line.tend_duty _ _
  all_goals rfl

theorem Line.breakEnds_duty (l : Line) : l.breakEnds.duty = l.duty := by
  unfold Line.breakEnds
  split <;> rfl

theorem Line.endShifter_duty (s : State) (l : Line) : (l.endShifter s).duty = l.duty := by
  unfold Line.endShifter
  split
  · split
    · exact l.breakEnds_duty
    all_goals exact l.shifterEnds_duty s
  · rfl

theorem Line.deliver_duty (s : State) (l : Line) (c : Completed) : (l.deliver s c).duty = l.duty := by
  unfold Line.deliver
  rw [Line.tend_duty]
  split
  · rw [Line.receiveFramed_eq]
    rfl
  · rw [Line.receiveAsync_eq]
    rfl

theorem Line.complete_duty (s : State) (l : Line) (c : Completed) : (l.complete s c).duty = l.duty :=
  Line.deliver_duty _ _ _

theorem Line.fallingEdge_duty (s : State) (l : Line) : (l.fallingEdge s).duty = l.duty := by
  unfold Line.fallingEdge
  split <;> rfl

theorem Line.startSample_duty (l : Line) (level : Bool) : (l.startSample level).duty = l.duty := by
  unfold Line.startSample
  split_ifs <;> rfl

theorem Line.recoverEnds_duty (s : State) (l : Line) : (l.recoverEnds s).duty = l.duty := by
  unfold Line.recoverEnds
  split <;> rfl

theorem Line.hearFall_duty (s : State) (l : Line) : (l.hearFall s).duty = l.duty := by
  unfold Line.hearFall
  split
  · exact l.fallingEdge_duty s
  · rfl

theorem Line.hear_duty (s : State) (l : Line) : (l.hear s).duty = l.duty := by
  unfold Line.hear
  split
  · unfold Line.hearInstant
    split
    · exact l.hearFall_duty s
    · exact l.startSample_duty false
    · rw [Line.hearFall_duty, Line.complete_duty]
    all_goals exact l.recoverEnds_duty s
  · rw [Line.hearBits_eq]
    rfl

theorem Line.setIdleDue_duty (l : Line) : l.setIdleDue.duty = l.duty := by
  unfold Line.setIdleDue
  split <;> rfl

theorem Line.endCounts_duty (s : State) (l : Line) : (l.endCounts s).duty = l.duty := by
  unfold Line.endCounts Line.checkIdleGap
  split
  · rw [Line.setIdleDue_duty, Line.hear_duty, Line.endShifter_duty]
  · rw [Line.hear_duty, Line.endShifter_duty]

theorem Line.clock_duty (s : State) (l : Line) : (l.clock s).duty = l.duty := by
  unfold Line.clock
  rw [Line.clockIdle_eq, Line.clockShifter_eq, Line.clockReceiver_eq]
  rfl

theorem Line.sampleSense_duty (l : Line) (pin : Bool) : (l.sampleSense pin).duty = l.duty := by
  unfold Line.sampleSense
  split
  · rfl
  · rfl
  · split <;> rfl

theorem Line.beat_duty (s : State) (l : Line) (pin : Bool) : (l.beat s pin).duty = l.duty := by
  unfold Line.beat
  rw [Line.tend_duty, Line.sampleSense_duty, Line.countHold_eq]
  rfl

theorem Line.applySetting_duty (s : State) (l : Line) (w : Word) : (l.applySetting s w).duty = l.duty := by
  rw [Line.applySetting_eq, Line.tend_eq, Line.changeModes_eq]
  rfl

theorem Line.quiesce_duty (l : Line) : l.quiesce.duty = l.duty := by
  rw [Line.quiesce, Line.tendHoldTimer_eq]
  rfl

theorem Line.setHoldDue_duty (l : Line) : l.setHoldDue.duty = l.duty := by
  unfold Line.setHoldDue
  split <;> rfl

theorem Line.resweep_duty (l : Line) : l.resweep.duty = l.duty := by
  rw [Line.resweep_eq]
  rfl

theorem Line.freeze_duty (l : Line) : l.freeze.duty = l.duty := by
  rw [Line.freeze_eq]
  rfl

theorem Line.pop_duty (l : Line) : l.pop.duty = l.duty := by
  unfold Line.pop
  split <;> rfl

theorem Line.tellEmpty_duty (s : State) (l : Line) : (l.tellEmpty s).duty = l.duty := by
  unfold Line.tellEmpty
  split
  exacts [l.shifterEnds_duty s, rfl]

theorem Line.tellBreakDone_duty (l : Line) : l.tellBreakDone.duty = l.duty := by
  unfold Line.tellBreakDone
  split
  exacts [l.breakEnds_duty, rfl]

/-! ### The invariant by its parts -/

/-- A FAULTED line is VACANT (R148). -/
def Line.vacantIfFaulted (l : Line) : Prop := l.faulted = true → l.rxOrder = none ∧ l.txOrder = none

theorem Line.vacantIfFaulted_of_duty {l' : Line} (h : l'.duty = l.duty) (hl : l.vacantIfFaulted) :
    l'.vacantIfFaulted := by
  simp only [Line.duty, Prod.mk.injEq] at h
  obtain ⟨hfaulted, hrx, htx⟩ := h
  unfold Line.vacantIfFaulted at *
  rwa [hfaulted, hrx, htx]

/-- A state in ACTIVE between visits, in a sequencer state that needs none. -/
structure State.Between (s : State) : Prop where
  visit : s.visit = none
  mem : s.mem = none
  power : s.power = .active
  req : s.req ≠ .standby
  seq : s.seq.transitional = false
  alert : s.quiet = true → s.alertLiveness = true
  vacant : ∀ n, (s.line n).vacantIfFaulted

theorem State.Between.controlOk (h : s.Between) : s.controlOk := by
  obtain ⟨hvisit, hmem, hpower, hreq, hseq, halert, hvacant⟩ := h
  refine ⟨by rw [hvisit, hmem]; rfl, by simp [hvisit], by simp [hseq], halert, by simp [State.windowShut, hpower],
    by simp [hpower, hreq, PowerState.standing], by simp [hpower, PowerState.standing], by simp [hpower],
    fun n hn => ⟨(hvacant n hn).1, (hvacant n hn).2, by simp [hvisit]⟩⟩

/-- A doze that may be entered is entered consistently, or ends at once (R158, R159). -/
theorem State.enterDoze_controlOk (h : s.mayDoze = true) (hs : s.controlOk) : s.enterDoze.controlOk := by
  simp only [State.mayDoze, Bool.and_eq_true, Bool.not_eq_true', beq_iff_eq, Option.isNone_iff_eq_none] at h
  obtain ⟨⟨hpower, hvisit⟩, htx⟩ := h
  obtain ⟨hmem, -, htrans, halert, -, hreq, -, -, hvacant⟩ := hs
  have hreq' : s.req ≠ .standby := fun hr => by simpa [hpower, PowerState.standing] using hreq.2 hr
  unfold State.enterDoze
  split
  · exact ⟨hmem, by simp [hvisit], htrans, halert, by simp [State.windowShut], by simp [PowerState.standing],
      by simp [PowerState.standing], by simp, hvacant⟩
  · exact ⟨hmem, by simp [hvisit], htrans, halert, by simp [State.windowShut], by simp [hreq', PowerState.standing],
      by simp [PowerState.standing], fun _ => htx, hvacant⟩

theorem State.enterRequestedDoze_controlOk (hs : s.controlOk) : s.enterRequestedDoze.controlOk := by
  unfold State.enterRequestedDoze
  split
  · next h => exact State.enterDoze_controlOk h.2 hs
  · exact hs

/-! ### Visits -/

/-- A state within a visit to line `n`: ACTIVE, with a sequencer state that a visit may stand in (R24). -/
structure State.Visiting (s : State) (n : LineNo) : Prop where
  power : s.power = .active
  req : s.req ≠ .standby
  seq : s.seq.mayVisit = true
  alert : s.quiet = true → s.alertLiveness = true
  vacant : ∀ m, m ≠ n → (s.line m).vacantIfFaulted
  sound : (s.line n).faulted = false

/-- What a visit changes of its line and the event port stands in no field that the frame keeps. -/
theorem Within.field {α : Type} (hw : Within n s u) (f : State → α) (hf : ∀ s : State, f s.frame = f s) :
    f u = f s := by rw [← hf u, hw.frame, hf]

theorem State.Visiting.of_within (h : s.Visiting n) (hw : Within n s u) : u.Visiting n := by
  refine ⟨(hw.field State.power fun _ => rfl).trans h.power, (hw.field State.req fun _ => rfl) ▸ h.req,
    (hw.field State.seq fun _ => rfl) ▸ h.seq, ?_, fun m hm => ?_, hw.line.faulted.trans h.sound⟩
  · rw [hw.field State.quiet fun _ => rfl, hw.field State.alertLiveness fun _ => rfl]
    exact h.alert
  · rw [hw.other m hm]
    exact h.vacant m hm

/-- A visit that waits for its transaction (R142). -/
theorem State.Visiting.issue (h : s.Visiting v.line) {p : VisitPoint} {r : MemRequest} {a : Word} {k : AccessKind}
    (hp : p.matches { tag := s.txnCount, request := r, addr := a, access := k, line := v.line, beats := 0 } = true) :
    (s.issue v p r a k).controlOk := by
  obtain ⟨hpower, hreq, hseq, halert, hvacant, hsound⟩ := h
  refine ⟨?_, fun _ => ⟨hseq, hpower⟩, fun _ => rfl, halert, ?_, ?_, ?_, ?_, fun n hn => ?_⟩
  · change ((v.line == v.line) && p.matches _ && decide (s.txnCount < s.txnCount + 1) && decide (0 ≤ 2)) = true
    rw [hp]
    simp
  · simp [State.windowShut, hpower]
  · simp [PowerState.standing, hpower, hreq]
  · simp [PowerState.standing, hpower]
  · simp [hpower]
  · have hne : n ≠ v.line := fun heq => by
      rw [heq] at hn
      exact absurd (hsound.symm.trans hn) (by decide)
    obtain ⟨hrx, htx⟩ := hvacant n hne hn
    refine ⟨hrx, htx, fun w hw => ?_⟩
    cases hw
    exact hne.symm

/-- The end of a visit leaves the sequencer in a state that needs none (R29). -/
theorem endVisit_controlOk (hpower : s.power = .active) (hreq : s.req ≠ .standby) (hseq : s.seq.mayVisit = true)
    (halert : s.quiet = true → s.alertLiveness = true) (hvacant : ∀ m, (s.line m).vacantIfFaulted) :
    (endVisit s v).controlOk := by
  refine State.enterRequestedDoze_controlOk (State.Between.controlOk ?_)
  let w : State := { (if v.resetHeld then s.applyLineReset v.line else s) with visit := none, mem := none }
  have hw : w = { s with lines := w.lines, visit := none, mem := none } := by
    dsimp only [w]
    split <;> rfl
  have hlines : ∀ m, (w.line m).vacantIfFaulted := fun m => by
    dsimp only [w]
    split
    · change ((s.setLine v.line Line.reset).line m).vacantIfFaulted
      rw [State.line_setLine]
      split
      exacts [nofun, hvacant m]
    · exact hvacant m
  change w.settleSeq.Between
  have hsettled (q : SeqState) (hq : q.transitional = false) (hquiet : q ≠ .quiesced) : (w.moveSeq q).Between := by
    rw [State.moveSeq_eq, hw]
    refine ⟨rfl, rfl, by simp [hpower], by simp [hpower, hreq], hq, fun h => ?_, hlines⟩
    simp only [State.quiet, Bool.or_eq_true, beq_iff_eq] at h
    rcases h with rfl | rfl
    exacts [absurd hq (by decide), absurd rfl hquiet]
  have hwseq : w.seq = s.seq := by rw [hw]
  cases hs : s.seq with
  | stopped | paused | quiesced => exact absurd hseq (by rw [hs]; decide)
  | pausing =>
    have h : w.settleSeq = w.moveSeq .paused := by simp [State.settleSeq, hwseq, hs]
    rw [h]
    exact hsettled _ rfl (by decide)
  | stopping =>
    have h : w.settleSeq = w.moveSeq .stopped := by simp [State.settleSeq, hwseq, hs]
    rw [h]
    exact hsettled _ rfl (by decide)
  | running =>
    have h : w.settleSeq = w := by simp [State.settleSeq, hwseq, hs]
    rw [h]
    refine ⟨rfl, rfl, by rw [hw]; exact hpower, by rw [hw]; exact hreq, by rw [hwseq, hs]; rfl, fun hq => ?_, hlines⟩
    simp [State.quiet, hwseq, hs] at hq
  | quiescing =>
    have h : w.settleSeq = w.enterQuiesced := by simp [State.settleSeq, hwseq, hs]
    have hmove : w.moveSeq .quiesced = { w with seq := .quiesced } := by
      rw [State.moveSeq_eq, hw]
      simp [hpower]
    obtain ⟨ls, hls, heq⟩ := (State.onLines_spec { w with seq := .quiesced } fun _ l => l.quiesce)
    rw [h, State.enterQuiesced, hmove, heq, hw]
    refine ⟨rfl, rfl, hpower, hreq, rfl, fun _ => halert (by simp [State.quiet, hs]), fun m => ?_⟩
    change ls[m].vacantIfFaulted
    rw [hls]
    exact Line.vacantIfFaulted_of_duty (Line.quiesce_duty _) (hlines m)

theorem State.Visiting.endVisit (h : s.Visiting v.line) : (endVisit s v).controlOk := by
  refine endVisit_controlOk h.power h.req h.seq h.alert fun m => ?_
  by_cases hm : m = v.line
  · rw [hm]
    intro hf
    exact absurd (h.sound.symm.trans hf) (by decide)
  · exact h.vacant m hm

/-- A line that becomes FAULTED becomes VACANT (R148). -/
theorem State.Visiting.lineFault (h : s.Visiting v.line) (x : Txn) (cause : FaultCause) :
    (lineFault s v x cause).controlOk := by
  unfold Machine.lineFault
  rw [State.offer_eq]
  refine endVisit_controlOk h.power h.req h.seq h.alert fun m => ?_
  change ((s.setLine v.line (Line.tend s (s.line v.line).fail)).line m).vacantIfFaulted
  rw [State.line_setLine]
  split
  · exact Line.vacantIfFaulted_of_duty (Line.tend_duty _ _) fun _ => ⟨rfl, rfl⟩
  · next hm => exact h.vacant m hm

theorem Proceeds.controlOk (hp : Proceeds s v t) (h : s.Visiting v.line) : t.controlOk := by
  cases hp with
  | issues hw p r a k hmatch => exact (h.of_within hw).issue hmatch
  | ends hw => exact (h.of_within hw).endVisit
  | fails hw x cause => exact (h.of_within hw).lineFault x cause

/-- The visit in progress of a consistent state, its transaction taken from the engine. -/
theorem State.controlOk.visiting (hs : s.controlOk) (hv : s.visit = some v) : s.freeEngine.Visiting v.line := by
  obtain ⟨-, hvisit, -, halert, -, hreq, -, -, hvacant⟩ := hs
  obtain ⟨hseq, hpower⟩ := hvisit (by rw [hv]; rfl)
  refine ⟨hpower, fun hr => ?_, hseq, halert, fun m _ hf => ?_, ?_⟩
  · have := hreq.2 hr
    rw [hpower] at this
    exact absurd this (by decide)
  · exact ⟨(hvacant m hf).1, (hvacant m hf).2.1⟩
  · by_contra hf
    exact (hvacant v.line (by simpa using hf)).2.2 v hv rfl

theorem State.Visiting.recordFault (h : s.Visiting n) (x : Txn) (cause : FaultCause) :
    (s.recordFault x cause).Visiting n := ⟨h.power, h.req, h.seq, h.alert, h.vacant, h.sound⟩

theorem State.Visiting.txnFault (h : s.Visiting v.line) (x : Txn) (cause : FaultCause) :
    (txnFault s v x cause).controlOk := (proceeds_txnFault x cause).controlOk (h.recordFault x cause)

/-! ### Answers and choices -/

theorem State.controlOk.mem (hs : s.controlOk) (hv : s.visit = some v) :
    ∃ x, s.mem = some x ∧ v.point.matches x = true := by
  have h := hs.1
  rw [hv] at h
  cases hm : s.mem with
  | none => simp [hm, visitOk] at h
  | some x =>
    rw [hm] at h
    simp only [visitOk, Bool.and_eq_true] at h
    exact ⟨x, rfl, h.1.1.2⟩

theorem State.awaited_eq_some {tag : Nat} {x : Txn} (h : s.awaited tag = some (v, x)) :
    s.visit = some v ∧ s.mem = some x := by
  unfold State.awaited at h
  split at h
  · next v' x' hv hm =>
    split at h
    · cases h
      exact ⟨hv, hm⟩
    · exact absurd h (by simp)
  · exact absurd h (by simp)

/-- An awaited answer finds the visit and a transaction that its point waits for. -/
theorem State.controlOk.awaited {tag : Nat} {x : Txn} (hs : s.controlOk) (h : s.awaited tag = some (v, x)) :
    s.freeEngine.Visiting v.line ∧ v.point.matches x = true := by
  obtain ⟨hv, hm⟩ := State.awaited_eq_some h
  obtain ⟨y, hy, hmatch⟩ := hs.mem hv
  cases hm.symm.trans hy
  exact ⟨hs.visiting hv, hmatch⟩

theorem answerWordRead_controlOk (tag : Nat) (a : WordAnswer) (hs : s.controlOk) :
    (answerWordRead s tag a).controlOk := by
  unfold answerWordRead
  split
  · next v x hx =>
    obtain ⟨hv, hmatch⟩ := hs.awaited hx
    split
    · next hr =>
      rcases wordArrived_cases (s := s.freeEngine) (v := v) _ with h | ⟨-, hno⟩
      · exact h.controlOk hv
      · exact absurd (hmatch.symm.trans (hno x hr)) (by decide)
    · exact hv.txnFault x .busError
    all_goals exact hs
  · exact hs

theorem answerWordWrite_controlOk (tag : Nat) (a : WriteAnswer) (hs : s.controlOk) :
    (answerWordWrite s tag a).controlOk := by
  unfold answerWordWrite
  split
  · next v x hx =>
    obtain ⟨hv, hmatch⟩ := hs.awaited hx
    split
    · next hr =>
      rcases wordWritten_cases (s := s.freeEngine) (v := v) with h | ⟨-, hno⟩
      · exact h.controlOk hv
      · exact absurd (hmatch.symm.trans (hno x _ hr)) (by decide)
    · exact hv.txnFault x .busError
    all_goals exact hs
  · exact hs

theorem answerByteWrite_controlOk (tag : Nat) (a : WriteAnswer) (hs : s.controlOk) :
    (answerByteWrite s tag a).controlOk := by
  unfold answerByteWrite
  split
  · next v x hx =>
    obtain ⟨hv, -⟩ := hs.awaited hx
    split
    exacts [(proceeds_byteStored _).controlOk hv, hv.txnFault x .busError, hs]
  · exact hs

theorem answerByteRead_controlOk (tag : Nat) (a : ByteAnswer) (hs : s.controlOk) :
    (answerByteRead s tag a).controlOk := by
  unfold answerByteRead
  split
  · next v x hx =>
    obtain ⟨hv, -⟩ := hs.awaited hx
    split
    exacts [(proceeds_byteLoaded _).controlOk hv, hv.txnFault x .busError, hs, hs, hs]
  · exact hs

theorem timeOut_controlOk (hs : s.controlOk) : (timeOut s).controlOk := by
  unfold timeOut
  split
  · next v x hv _ => exact (hs.visiting hv).txnFault x .timeout
  · exact hs

/-- The beginning of a visit keeps what its steps rest on. -/
theorem State.Visiting.begun (h : s.Visiting n) : (s.begun n).Visiting n := by
  obtain ⟨hpower, hreq, hseq, halert, hvacant, hsound⟩ := h
  rcases s.begun_cases n with ⟨-, hbegun⟩ | ⟨-, e, -, hbegun⟩ <;> rw [hbegun]
  · refine ⟨hpower, hreq, hseq, halert, fun m hm => ?_, ?_⟩
    · rw [State.line_setLine_ne _ _ _ _ hm.symm]
      exact hvacant m hm
    · rw [State.line_setLine_self]
      exact hsound
  · rw [State.offer_eq]
    refine ⟨hpower, hreq, hseq, halert, fun m hm => ?_, ?_⟩
    · rw [State.line_setLine_ne _ _ _ _ hm.symm]
      exact (congrArg Line.vacantIfFaulted (State.line_setLine_ne _ _ _ _ hm.symm)).mpr (hvacant m hm)
    · rw [State.line_setLine_self]
      exact hsound

/-- A line that is chosen is not FAULTED, so its visit may begin (R33). -/
theorem beginVisit_controlOk (hs : s.controlOk) (hmay : s.mayVisit = true) (hn : (s.line n).faulted = false) :
    (beginVisit s n).controlOk := by
  simp only [State.mayVisit, Bool.and_eq_true, beq_iff_eq] at hmay
  obtain ⟨⟨hseq, hpower⟩, -⟩ := hmay
  obtain ⟨-, -, -, halert, -, hreq, -, -, hvacant⟩ := hs
  suffices hbefore : s.Visiting n from (proceeds_beginVisit s n).controlOk hbefore.begun
  refine ⟨hpower, fun hr => ?_, by rw [hseq]; rfl, halert, fun m _ hf => ?_, hn⟩
  · have := hreq.2 hr
    rw [hpower] at this
    exact absurd this (by decide)
  · exact ⟨(hvacant m hf).1, (hvacant m hf).2.1⟩

theorem Line.faulted_of_needsService (h : l.needsService = true) : l.faulted = false := by
  simp only [Line.needsService, Bool.and_eq_true, Bool.not_eq_true'] at h
  exact h.1

theorem State.firstLine_holds {f : Line → Bool} (h : s.firstLine f = some n) : f (s.line n) = true :=
  List.find?_some (p := fun n => f (s.line n)) h

theorem nextVisit_controlOk (hs : s.controlOk) : (nextVisit s).controlOk := by
  unfold nextVisit
  split
  · next hmay =>
    split
    · next n hn => exact beginVisit_controlOk hs hmay (Line.faulted_of_needsService (State.firstLine_holds hn))
    · exact hs
  · exact hs

end Sys2Proof.Machine
end

section
/-! Every command keeps the sequencer, the memory engine and the power state consistent. -/

namespace Sys2Proof.Machine

variable {s t u : State} {l : Line} {n : LineNo} {v : Visit} {f g : State → State}

/-! ### Operations the invariant does not see -/

theorem stands_onLine (f : Line → Line) (h : ∀ l, (f l).duty = l.duty) : Stands s (s.onLine n f) := stands_setLine (h _)

theorem stands_markCancelRx (n : LineNo) : Stands s (s.markCancelRx n) := stands_setLine rfl

theorem stands_markCancelTx (n : LineNo) : Stands s (s.markCancelTx n) := stands_setLine rfl

theorem stands_offer (e : EventRec) : Stands s (s.offer e) := by
  refine ⟨by rw [State.offer_eq]; rfl, fun n => by rw [State.offer_line]⟩

theorem stands_watchIdle : Stands s s.watchIdle := by
  rw [State.watchIdle_eq]
  exact ⟨rfl, fun _ => rfl⟩

theorem stands_expireHolds : Stands s s.expireHolds := .ite (stands_onLines fun _ l => l.setHoldDue_duty) (.refl s)

theorem stands_expireTick : Stands s s.expireTick := .ite ⟨rfl, fun _ => rfl⟩ (.refl s)

theorem stands_expireResweep : Stands s s.expireResweep := by
  refine ⟨by rw [State.expireResweep_eq]; rfl, fun n => ?_⟩
  rw [State.expireResweep_line]
  split
  exacts [Line.resweep_duty _, rfl]

theorem stands_endInstant : Stands s s.endInstant := by
  refine ⟨by rw [State.endInstant_eq]; rfl, fun n => ?_⟩
  rw [State.endInstant_line]
  rfl

theorem stands_offerWakes : Stands s s.offerWakes := by
  unfold State.offerWakes
  generalize List.finRange 16 = ns
  induction ns generalizing s with
  | nil => exact .refl s
  | cons n ns ih => exact (Stands.ite (stands_offer _) (.refl s)).trans ih

theorem stands_countClock : Stands s s.countClock := by
  have hlines : Stands s (s.onLines fun _ l => l.clock s) := stands_onLines fun _ l => l.clock_duty s
  have hrun : Stands s { s.onLines fun _ l => l.clock s with beatClocks := min Config.clocksPerBeat (s.beatClocks + 1) } :=
    ⟨hlines.standing, hlines.duty⟩
  unfold State.countClock
  split
  exacts [hrun, hrun, hrun, ⟨rfl, fun _ => rfl⟩, .refl s]

theorem stands_readRegister (lanes : Lanes) (r : Reg) : Stands s (s.readRegister lanes r) := by
  have heffect : Stands s (s.readEffect r) := by
    cases r with
    | eventTake =>
      cases hev : s.events with
      | nil =>
        refine ⟨?_, fun _ => ?_⟩ <;> rw [State.readEffect, State.takeEvent_nil hev] <;> rfl
      | cons e rest =>
        rw [State.readEffect, State.takeEvent_cons hev]
        exact .ite ⟨rfl, fun _ => rfl⟩ ⟨rfl, fun _ => rfl⟩
    | conData => exact .ite (stands_setLine (Line.pop_duty _)) (.refl s)
    | conStatus => exact .ite ⟨rfl, fun _ => rfl⟩ (.refl s)
    | _ => exact ⟨rfl, fun _ => rfl⟩
  exact ⟨heffect.standing, heffect.duty⟩

/-! ### Moves of the power state and of the sequencer -/

theorem State.controlOk.visit_eq_none (hs : s.controlOk) (h : s.power ≠ .active ∨ s.seq.mayVisit = false) :
    s.visit = none := by
  by_contra hv
  obtain ⟨hseq, hpower⟩ := hs.2.1 (Option.isSome_iff_ne_none.2 hv)
  rcases h with h | h
  exacts [h hpower, absurd (hseq.symm.trans h) (by decide)]

theorem endDoze_controlOk (hs : s.controlOk) : s.endDoze.controlOk := by
  unfold State.endDoze
  split
  · next hp =>
    have hv := hs.visit_eq_none (.inl (by simp [hp]))
    obtain ⟨hmem, -, htrans, halert, -, -, -, -, hvacant⟩ := hs
    exact ⟨hmem, by simp [hv], htrans, halert, by simp [State.windowShut], by simp [PowerState.standing],
      by simp [PowerState.standing], by simp, hvacant⟩
  · exact hs

theorem endDoze_windowShut : s.endDoze.windowShut = s.windowShut := by
  unfold State.endDoze
  split
  · next hp =>
    simp only [State.windowShut, hp]
    rfl
  · rfl

/-- A move of the sequencer to a state that the visit, or its absence, admits (R24); a standby entry is abandoned where
the state does not admit it (R160). -/
theorem moveSeq_controlOk {q : SeqState} (hs : s.controlOk) (hopen : s.windowShut = false)
    (hvisit : s.visit.isSome = true → q.mayVisit = true) (htrans : q.transitional = true → s.visit.isSome = true)
    (hquiet : q = .quiescing ∨ q = .quiesced → s.alertLiveness = true) : (s.moveSeq q).controlOk := by
  obtain ⟨hmem, hactive, -, -, -, hreq, -, hdoze, hvacant⟩ := hs
  have halert : ∀ u : State, u.seq = q → u.alertLiveness = s.alertLiveness → u.quiet = true → u.alertLiveness = true :=
    fun u hu ha hq => by
      simp only [State.quiet, hu, Bool.or_eq_true, beq_iff_eq] at hq
      exact ha.trans (hquiet hq)
  unfold State.moveSeq
  split
  · next h =>
    exact ⟨hmem, fun hv => ⟨hvisit hv, rfl⟩, htrans, halert _ rfl rfl, by simp [State.windowShut, State.abandonStandby],
      by simp [PowerState.standing], by simp [PowerState.standing], by simp, hvacant⟩
  · next h =>
    refine ⟨hmem, fun hv => ⟨hvisit hv, (hactive hv).2⟩, htrans, halert _ rfl rfl, fun hshut => ?_, hreq, fun hp => ?_,
      hdoze, hvacant⟩
    · exact absurd (hopen.symm.trans hshut) (by decide)
    · have hentry : s.power = .standbyEntry := by
        cases hp' : s.power <;> simp_all [PowerState.standing, State.windowShut]
      by_cases hq : q = .stopped
      · exact .inl hq
      · by_contra hq'
        exact h ⟨hentry, hq, fun hp => hq' (.inr hp)⟩

theorem moveThrough_controlOk {p q : SeqState} (hs : s.controlOk) (hopen : s.windowShut = false)
    (hp : p.mayVisit = true ∧ p ≠ .quiescing) (hq : q.transitional = false ∧ q ≠ .quiesced) :
    (s.moveThrough p q).controlOk := by
  unfold State.moveThrough
  split
  · next hv =>
    refine moveSeq_controlOk hs hopen (fun _ => hp.1) (fun _ => hv) fun h => ?_
    rcases h with rfl | rfl
    exacts [absurd rfl hp.2, absurd hp.1 (by decide)]
  · next hv =>
    refine moveSeq_controlOk hs hopen (fun h => absurd h hv) (fun h => absurd (h.symm.trans hq.1) (by decide)) fun h => ?_
    rcases h with rfl | rfl
    exacts [absurd hq.1 (by decide), absurd rfl hq.2]

/-- The move towards QUIESCED under the alert (R24, R30). -/
theorem quiesceSeq_controlOk (hs : s.controlOk) (hopen : s.windowShut = false) (halert : s.alertLiveness = true) :
    s.quiesceSeq.controlOk := by
  unfold State.quiesceSeq
  split
  · next hv => exact moveSeq_controlOk hs hopen (fun _ => rfl) (fun _ => hv) fun _ => halert
  · next hv =>
    have hmove := moveSeq_controlOk (q := .quiesced) hs hopen (fun h => absurd h hv) nofun fun _ => halert
    exact (stands_onLines fun _ l => l.quiesce_duty).controlOk hmove

/-! ### What falls due -/

theorem expireTimeout_controlOk (hs : s.controlOk) : s.expireTimeout.controlOk := by
  unfold State.expireTimeout
  split
  exacts [timeOut_controlOk hs, hs]

theorem expireGuard_controlOk (hs : s.controlOk) : s.expireGuard.controlOk := by
  unfold State.expireGuard
  split
  · next hdue =>
    have hopen : s.windowShut = false := by
      by_contra hshut
      exact absurd (hdue.symm.trans (hs.2.2.2.2.1 (by simpa using hshut))) (by decide)
    have halert : State.controlOk { s with alertLiveness := true, guardRunning := false } := by
      obtain ⟨hmem, hactive, htrans, -, -, hrest⟩ := hs
      exact ⟨hmem, hactive, htrans, fun _ => rfl, fun _ => by simp [State.guardDue], hrest⟩
    have hoffer := (stands_offer livenessEvent).controlOk halert
    refine quiesceSeq_controlOk (endDoze_controlOk hoffer) ?_ ?_
    · rw [endDoze_windowShut, State.windowShut, State.offer_power]
      exact hopen
    · rw [State.endDoze_eq, State.offer_eq]
  · exact hs

theorem enterAutoDoze_controlOk (hs : s.controlOk) : s.enterAutoDoze.controlOk := by
  unfold State.enterAutoDoze
  split
  · next h =>
    simp only [State.autoDozeDue, Bool.and_eq_true] at h
    exact State.enterDoze_controlOk h.2 hs
  · exact hs

/-- STANDBY is entered where no guard is due any more: the expiry comes before it (R160, R166). -/
theorem enterStandby_controlOk (hguard : s.guardDue = false) (hs : s.controlOk) : s.enterStandby.controlOk := by
  cases hdue : s.standbyDue with
  | false =>
    have heq : s.enterStandby = s := by simp [State.enterStandby, hdue]
    rwa [heq]
  | true =>
    have hline : ∀ n, (s.enterStandby.line n).duty = (s.line n).duty := fun n => by
      rw [State.enterStandby_line, hdue]
      exact Line.freeze_duty _
    have hpower : s.power = .standbyEntry := by
      simp only [State.standbyDue, Bool.and_eq_true, beq_iff_eq] at hdue
      exact hdue.1.1
    have hv := hs.visit_eq_none (.inl (by simp [hpower]))
    obtain ⟨hmem, -, htrans, halert, -, hreq, hseq, -, hvacant⟩ := hs
    have hstand : State.controlOk { s with power := .standby } :=
      ⟨hmem, by simp [hv], htrans, halert, fun _ => hguard, by simpa [hpower, PowerState.standing] using hreq,
        fun _ => hseq (by rw [hpower]; rfl), by simp, hvacant⟩
    refine Stands.controlOk (s := { s with power := .standby }) ⟨?_, hline⟩ hstand
    rw [State.enterStandby_eq, hdue]
    rfl

theorem finishVisit_controlOk (hs : s.controlOk) : s.finishVisit.controlOk :=
  expireTimeout_controlOk (stands_expireHolds.controlOk hs)

theorem finishGuard_controlOk (hs : s.controlOk) : s.finishGuard.controlOk :=
  expireGuard_controlOk (stands_expireTick.controlOk (finishVisit_controlOk hs))

theorem finishTimers_controlOk (hs : s.controlOk) : s.finishTimers.controlOk :=
  stands_expireResweep.controlOk (finishGuard_controlOk hs)

theorem State.guardDue_of_timersSettled (h : s.timersSettled = true) : s.guardDue = false := by
  simp only [State.timersSettled, Bool.and_eq_true, Bool.not_eq_true'] at h
  exact h.2

theorem finishInstant_controlOk (hs : s.controlOk) : s.finishInstant.controlOk := by
  have hdoze := enterAutoDoze_controlOk (finishTimers_controlOk hs)
  have htimers := s.finishTimers.enterAutoDoze_due.2.trans s.finishTimers_timersSettled
  exact stands_endInstant.controlOk (enterStandby_controlOk (State.guardDue_of_timersSettled htimers) hdoze)

theorem beforeAnswer_controlOk (tag : Nat) (hs : s.controlOk) : (s.beforeAnswer tag).controlOk := by
  unfold State.beforeAnswer
  split
  exacts [stands_expireHolds.controlOk hs, finishInstant_controlOk hs]

theorem Line.faulted_of_neededService (h : l.neededService = true) : l.faulted = false :=
  Line.faulted_of_needsService (l := { l with statusPending := l.pendingBefore }) h

theorem visitNow_controlOk (hs : s.controlOk) : (visitNow s).controlOk := by
  have hnext := nextVisit_controlOk (finishInstant_controlOk hs)
  unfold visitNow
  split
  · next n hn =>
    split
    · next hmay =>
      have hmay' : s.watchIdle.mayVisit = true := by
        rw [State.watchIdle_eq]
        exact hmay
      have hneeds : (s.line n).faulted = false :=
        Line.faulted_of_neededService (State.firstLine_holds hn)
      refine beginVisit_controlOk (stands_watchIdle.controlOk hs) hmay' ?_
      rw [State.watchIdle_eq]
      exact hneeds
    · exact hnext
  · exact hnext

/-! ### The beat boundary and the clock -/

/-- A transaction that was not due is due at most after one more boundary (R2, R143). -/
theorem visitOk_older (htime : s.timeoutDue = false) (h : visitOk s.visit s.mem s.txnCount = true) :
    visitOk s.visit (s.mem.map Txn.older) s.txnCount = true := by
  unfold State.timeoutDue at htime
  generalize s.visit = v at h htime ⊢
  generalize s.mem = m at h htime ⊢
  cases v <;> cases m
  · rfl
  · exact absurd h (by simp [visitOk])
  · exact absurd h (by simp [visitOk])
  · next v x =>
    have hbeats : ¬2 ≤ x.beats := by simpa using htime
    simp only [visitOk, Bool.and_eq_true, decide_eq_true_eq] at h
    obtain ⟨⟨⟨hline, hmatch⟩, htag⟩, -⟩ := h
    change (x.line == v.line && v.point.matches x && decide (x.tag < s.txnCount) && decide (x.beats + 1 ≤ 2)) = true
    rw [hline, hmatch]
    simp only [Bool.true_and, Bool.and_eq_true, decide_eq_true_eq]
    omega

theorem countBeat_controlOk (sense : BitVec 16) (hopen : s.windowShut = false) (htime : s.timeoutDue = false)
    (hs : s.controlOk) : (s.countBeat sense).controlOk := by
  have hlines : Stands s (s.onLines fun n l => l.beat s (sense.getLsbD n.val)) :=
    stands_onLines fun n l => l.beat_duty s _
  obtain ⟨ls, -, heq⟩ := s.onLines_spec fun n l => l.beat s (sense.getLsbD n.val)
  unfold State.countBeat
  rw [heq] at hlines ⊢
  obtain ⟨hmem, hactive, htrans, halert, -, hrest⟩ := hlines.controlOk hs
  exact ⟨visitOk_older htime hmem, hactive, htrans, halert, fun h => absurd (hopen.symm.trans h) (by decide), hrest⟩

theorem State.timeoutDue_of_settled (h : s.settled = true) : s.timeoutDue = false := by
  have := State.timersSettled_of_settled h
  simp only [State.timersSettled, Bool.and_eq_true, Bool.not_eq_true'] at this
  exact this.1.1.1.2

theorem beat_controlOk (sense : BitVec 16) (h : s.settled = true) (hs : s.controlOk) : (s.beat sense).controlOk := by
  unfold State.beat
  split
  · next hrun =>
    have hcount := countBeat_controlOk sense (by simpa [State.clockRuns] using hrun) (State.timeoutDue_of_settled h) hs
    split
    · exact Stands.controlOk (s := (s.countBeat sense).endDoze) ⟨rfl, fun _ => rfl⟩ (endDoze_controlOk hcount)
    · exact hcount
  · exact hs

theorem hostReset_controlOk (s : State) : s.hostReset.controlOk :=
  State.Between.controlOk ⟨rfl, rfl, rfl, nofun, rfl, nofun, fun n => by
    change (State.reset.line n).vacantIfFaulted
    rw [State.line_reset]
    exact nofun⟩

theorem pinReset_controlOk (s : State) : s.pinReset.controlOk :=
  State.Between.controlOk ⟨rfl, rfl, rfl, nofun, rfl, nofun, fun n => by
    change (State.reset.line n).vacantIfFaulted
    rw [State.line_reset]
    exact nofun⟩

/-- The part returns to ACTIVE between visits (R163). -/
theorem wake_controlOk (hpower : s.power = .waking) (hs : s.controlOk) : s.wake.controlOk := by
  have hv := hs.visit_eq_none (.inl (by simp [hpower]))
  obtain ⟨hmem, -, htrans, halert, -, -, -, -, hvacant⟩ := hs
  have hm : s.mem = none := by
    cases hm : s.mem with
    | none => rfl
    | some x => simp [hv, hm, visitOk] at hmem
  obtain ⟨ls, hls, heq⟩ := s.onLines_spec fun _ l => l.wake
  unfold State.wake
  rw [heq]
  refine stands_offerWakes.controlOk (State.Between.controlOk ⟨hv, hm, rfl, by simp, ?_, halert, fun n hf => ?_⟩)
  · change s.seq.transitional = false
    by_contra ht
    have := htrans (by simpa using ht)
    rw [hv] at this
    exact absurd this (by decide)
  · change ls[n].rxOrder = none ∧ ls[n].txOrder = none
    have hf' : ls[n].faulted = true := hf
    rw [hls] at hf' ⊢
    exact ⟨(hvacant n hf').1, (hvacant n hf').2.1⟩

theorem wakingEnds_controlOk (hs : s.controlOk) : s.wakingEnds.controlOk := by
  unfold State.wakingEnds
  split
  · next h =>
    split
    exacts [hostReset_controlOk s, wake_controlOk h hs]
  · exact hs

theorem untold_controlOk (h : (f s).controlOk) : (s.untold f).controlOk :=
  finishInstant_controlOk (stands_watchIdle.controlOk h)

theorem endLines_controlOk (hs : s.controlOk) : s.endLines.controlOk := by
  have hlines := (stands_onLines fun _ l => l.endCounts_duty s).controlOk hs
  unfold State.endLines
  split
  exacts [endDoze_controlOk hlines, hlines]

theorem clockTick_controlOk (h : s.settled = true) (hs : s.controlOk) : s.clockTick.controlOk := by
  have hsettle : s.endSettle.controlOk := by
    unfold State.endSettle
    split
    exacts [untold_controlOk (wakingEnds_controlOk hs), hs]
  have hbeat : s.endSettle.endBeat.controlOk := by
    unfold State.endBeat
    split
    exacts [untold_controlOk (beat_controlOk _ (State.endSettle_settled h) hsettle), hsettle]
  refine stands_countClock.controlOk ?_
  unfold State.endCounts
  split
  exacts [untold_controlOk (endLines_controlOk hbeat), hbeat]

/-! ### Writes of the window -/

theorem gated_controlOk (hs : s.controlOk) (h : s.windowShut = false → (f s).controlOk) : (s.gated f).controlOk := by
  unfold State.gated
  split
  · exact Stands.controlOk ⟨rfl, fun _ => rfl⟩ hs
  · next hopen => exact h (by simpa using hopen)

theorem commanded_controlOk (hs : s.controlOk) (h : ∀ u : State, u.controlOk → u.windowShut = false → (f u).controlOk) :
    (s.commanded f).controlOk :=
  gated_controlOk hs fun hopen => h _ (endDoze_controlOk hs) (endDoze_windowShut.trans hopen)

theorem refuseCommand_controlOk (hs : s.controlOk) : s.refuseCommand.controlOk :=
  Stands.controlOk ⟨rfl, fun _ => rfl⟩ hs

theorem refuseWrite_controlOk (hs : s.controlOk) : s.refuseWrite.controlOk := Stands.controlOk ⟨rfl, fun _ => rfl⟩ hs

/-- A move to RUNNING, STOPPED or PAUSED from a state that admits it. -/
theorem moveSeq_plain_controlOk {q : SeqState} (hs : s.controlOk) (hopen : s.windowShut = false)
    (hq : q = .running ∨ s.seq.mayVisit = false) (hstable : q.transitional = false) (hquiet : q ≠ .quiesced) :
    (s.moveSeq q).controlOk := by
  refine moveSeq_controlOk hs hopen (fun hv => ?_) (fun h => absurd (h.symm.trans hstable) (by decide)) fun h => ?_
  · rcases hq with rfl | hq
    · rfl
    · rw [hs.visit_eq_none (.inr hq)] at hv
      exact absurd hv (by decide)
  · rcases h with rfl | rfl
    exacts [absurd hstable (by decide), absurd rfl hquiet]

theorem start_controlOk (hs : s.controlOk) (hopen : s.windowShut = false) : s.start.controlOk := by
  unfold State.start
  split
  · exact moveSeq_plain_controlOk hs hopen (.inl rfl) rfl (by decide)
  · exact moveSeq_plain_controlOk hs hopen (.inl rfl) rfl (by decide)
  all_goals exact refuseCommand_controlOk hs

theorem stop_controlOk (hs : s.controlOk) (hopen : s.windowShut = false) : s.stop.controlOk := by
  unfold State.stop
  split
  · exact moveThrough_controlOk hs hopen ⟨rfl, by decide⟩ ⟨rfl, by decide⟩
  · exact moveThrough_controlOk hs hopen ⟨rfl, by decide⟩ ⟨rfl, by decide⟩
  · next hq => exact moveSeq_plain_controlOk hs hopen (.inr (by rw [hq]; rfl)) rfl (by decide)
  all_goals exact refuseCommand_controlOk hs

theorem pause_controlOk (hs : s.controlOk) (hopen : s.windowShut = false) : s.pause.controlOk := by
  unfold State.pause
  split
  · exact moveThrough_controlOk hs hopen ⟨rfl, by decide⟩ ⟨rfl, by decide⟩
  all_goals exact refuseCommand_controlOk hs

theorem resume_controlOk (hs : s.controlOk) (hopen : s.windowShut = false) : s.resume.controlOk := by
  unfold State.resume
  split
  · exact moveSeq_plain_controlOk hs hopen (.inl rfl) rfl (by decide)
  · exact moveSeq_plain_controlOk hs hopen (.inl rfl) rfl (by decide)
  all_goals exact refuseCommand_controlOk hs

/-- A request of POWER in ACTIVE (R157). -/
theorem setReq_controlOk (r : PowerReq) (hr : r ≠ .standby) (auto : Bool) (hs : s.controlOk) :
    State.controlOk { s with power := .active, req := r, autoDoze := auto, idleBeats := 0 } := by
  obtain ⟨hmem, hvisit, htrans, halert, -, -, -, -, hvacant⟩ := hs
  exact ⟨hmem, fun hv => ⟨(hvisit hv).1, rfl⟩, htrans, halert, by simp [State.windowShut],
    by simp [PowerState.standing, hr], by simp [PowerState.standing], by simp, hvacant⟩

/-- A write that leaves the power state and its request. -/
theorem storeAuto_controlOk (auto : Bool) (hs : s.controlOk) : (s.storeAuto auto).controlOk :=
  Stands.controlOk ⟨rfl, fun _ => rfl⟩ hs

/-- The clock starts to settle (R162). -/
theorem setWaking_controlOk (h : s.power = .standby ∨ s.power = .waking) (hs : s.controlOk) :
    State.controlOk { s with power := .waking } := by
  have hv := hs.visit_eq_none (.inl (by rcases h with h | h <;> simp [h]))
  have hstand : s.power.standing = true := by rcases h with h | h <;> rw [h] <;> rfl
  have hshut : s.windowShut = true := by rcases h with h | h <;> simp [State.windowShut, h]
  obtain ⟨hmem, -, htrans, halert, hguard, hreq, hseq, -, hvacant⟩ := hs
  exact ⟨hmem, by simp [hv], htrans, halert, fun _ => hguard hshut, ⟨fun _ => hreq.1 hstand, fun _ => rfl⟩,
    fun _ => hseq hstand, by simp, hvacant⟩

theorem endDoze_storeReq (r : PowerReq) (auto : Bool) (h : s.power = .active ∨ s.power = .doze) :
    s.endDoze.storeReq r auto = { s with power := .active, req := r, autoDoze := auto, idleBeats := 0 } := by
  rw [State.endDoze_eq]
  rcases h with h | h <;> simp [State.storeReq, h]

theorem reqActive_controlOk (auto : Bool) (hs : s.controlOk) : (s.reqActive auto).controlOk := by
  unfold State.reqActive
  split
  · next h =>
    rw [endDoze_storeReq _ _ (.inl h)]
    exact setReq_controlOk _ (by decide) _ hs
  · next h =>
    rw [endDoze_storeReq _ _ (.inr h)]
    exact setReq_controlOk _ (by decide) _ hs
  · next h => exact setReq_controlOk (s := s) _ (by decide) _ hs
  · next h => exact setWaking_controlOk (.inl h) (storeAuto_controlOk auto hs)
  · exact storeAuto_controlOk auto hs

theorem reqDoze_controlOk (auto : Bool) (hs : s.controlOk) : (s.reqDoze auto).controlOk := by
  unfold State.reqDoze
  split
  · next h =>
    rw [endDoze_storeReq _ _ (.inl h)]
    exact State.enterRequestedDoze_controlOk (setReq_controlOk _ (by decide) _ hs)
  · next h =>
    rw [endDoze_storeReq _ _ (.inr h)]
    exact State.enterRequestedDoze_controlOk (setReq_controlOk _ (by decide) _ hs)
  · next h => exact State.enterRequestedDoze_controlOk (setReq_controlOk (s := s) _ (by decide) _ hs)
  all_goals exact refuseWrite_controlOk hs

theorem reqStandby_controlOk (auto : Bool) (hs : s.controlOk) : (s.reqStandby auto).controlOk := by
  have hentry (h : s.power = .active ∨ s.power = .doze) :
      State.controlOk
        (if s.mayStandby then { s.endDoze.storeReq .standby auto with power := .standbyEntry }
        else s.endDoze.refuseWrite) := by
    split
    · next hmay =>
      simp only [State.mayStandby, Bool.or_eq_true, beq_iff_eq] at hmay
      have hv := hs.visit_eq_none (.inr (by rcases hmay with hq | hq <;> rw [hq] <;> rfl))
      obtain ⟨hmem, -, htrans, halert, -, -, -, -, hvacant⟩ := hs
      rw [endDoze_storeReq _ _ h]
      exact ⟨hmem, by simp [hv], htrans, halert, by simp [State.windowShut], by simp [PowerState.standing],
        fun _ => hmay, by simp, hvacant⟩
    · exact refuseWrite_controlOk (endDoze_controlOk hs)
  unfold State.reqStandby
  split
  · next h => exact hentry (.inl h)
  · next h => exact hentry (.inr h)
  · exact storeAuto_controlOk auto hs
  all_goals exact refuseWrite_controlOk hs

theorem writePower_controlOk (value : Word) (hs : s.controlOk) : (s.writePower value).controlOk := by
  unfold State.writePower
  split
  exacts [reqActive_controlOk _ hs, reqDoze_controlOk _ hs, reqStandby_controlOk _ hs,
    refuseWrite_controlOk (endDoze_controlOk hs)]

theorem commandReset_controlOk (hs : s.controlOk) : s.commandReset.controlOk := by
  unfold State.commandReset
  split
  · next h => exact Stands.controlOk ⟨rfl, fun _ => rfl⟩ (setWaking_controlOk (.inl h) hs)
  · exact Stands.controlOk (s := s) ⟨rfl, fun _ => rfl⟩ hs
  all_goals exact hostReset_controlOk s

theorem wakeEdges_controlOk (starts senses : BitVec 16) (hs : s.controlOk) : (s.wakeEdges starts senses).controlOk := by
  unfold State.wakeEdges
  split
  · next h => exact Stands.controlOk ⟨rfl, fun _ => rfl⟩ (setWaking_controlOk (.inl h.1) hs)
  · exact hs

/-- While the window is open the guard may be due. -/
theorem setGuard_controlOk (en run : Bool) (count : Nat) (hopen : s.windowShut = false) (hs : s.controlOk) :
    State.controlOk { s with livenessEn := en, guardRunning := run, guardCount := count } := by
  obtain ⟨hmem, hvisit, htrans, halert, -, hrest⟩ := hs
  exact ⟨hmem, hvisit, htrans, halert, fun h => absurd (hopen.symm.trans h) (by decide), hrest⟩

theorem writeControl_controlOk (value : Word) (hs : s.controlOk) : (s.writeControl value).controlOk := by
  refine gated_controlOk hs fun hopen => ?_
  split
  · exact Stands.controlOk ⟨rfl, fun _ => rfl⟩ (setGuard_controlOk true true s.guardPeriod hopen hs)
  · exact Stands.controlOk (s := s) ⟨rfl, fun _ => rfl⟩ hs

theorem writeKeepalive_controlOk (value : Word) (hs : s.controlOk) : (s.writeKeepalive value).controlOk := by
  refine gated_controlOk hs fun hopen => ?_
  rw [State.key_eq]
  exact Stands.controlOk ⟨rfl, fun _ => rfl⟩ (setGuard_controlOk s.livenessEn s.guardRunning _ hopen hs)

/-- A line's reset state is VACANT (R44). -/
theorem applyLineReset_controlOk (n : LineNo) (hs : s.controlOk) : (s.applyLineReset n).controlOk := by
  obtain ⟨hmem, hvisit, htrans, halert, hguard, hreq, hseq, hdoze, hvacant⟩ := hs
  refine ⟨hmem, hvisit, htrans, halert, hguard, hreq, hseq, fun hp => ?_, fun m hm => ?_⟩
  · have htx := hdoze hp
    simp only [State.anyTxActive, List.any_eq_false, List.mem_finRange, forall_const] at htx ⊢
    intro m
    unfold State.applyLineReset
    rw [State.line_setLine]
    split
    exacts [by decide, htx m]
  · unfold State.applyLineReset at hm ⊢
    rw [State.line_setLine] at hm ⊢
    split at hm
    · exact absurd hm (by decide)
    · next hne =>
      rw [if_neg hne]
      exact hvacant m hm

theorem resetLineCmd_controlOk (n : LineNo) (hs : s.controlOk) : (s.resetLineCmd n).controlOk := by
  have hnow := State.enterRequestedDoze_controlOk (applyLineReset_controlOk n hs)
  unfold State.resetLineCmd
  split
  · next v hv =>
    split
    · obtain ⟨hmem, hvisit, htrans, halert, hguard, hreq, hseq, hdoze, hvacant⟩ := hs
      rw [hv] at hmem hvisit
      refine ⟨?_, fun _ => hvisit rfl, fun _ => rfl, halert, hguard, hreq, hseq, hdoze, fun m hm => ?_⟩
      · cases hx : s.mem with
        | none => simp [hx, visitOk] at hmem
        | some x =>
          rw [hx] at hmem
          exact hmem
      · obtain ⟨hrx, htx, hne⟩ := hvacant m hm
        refine ⟨hrx, htx, fun w hw => ?_⟩
        cases hw
        exact hne v hv
    · exact hnow
  · exact hnow

theorem ring_controlOk (value : Word) (hs : s.controlOk) : (s.ring value).controlOk := by
  unfold State.ring
  split
  · exact (stands_onLines (f := fun _ l => { l with attn := true }) fun _ _ => rfl).controlOk hs
  · exact (stands_onLine (fun l => { l with attn := true }) fun _ => rfl).controlOk hs

theorem lineOperation_controlOk (value : Word) (hs : s.controlOk) : (s.lineOperation value).controlOk := by
  unfold State.lineOperation
  split
  exacts [(stands_markCancelRx _).controlOk hs, (stands_markCancelTx _).controlOk hs, resetLineCmd_controlOk _ hs,
    refuseCommand_controlOk hs]

theorem putLine_controlOk (h : l.duty = (s.line n).duty) (hs : s.controlOk) : (s.putLine n l).controlOk := by
  have hset := (stands_setLine h).controlOk hs
  unfold State.putLine
  split
  exacts [endDoze_controlOk hset, hset]

theorem writeLineSetting_controlOk (value : Word) (hs : s.controlOk) : (s.writeLineSetting value).controlOk := by
  refine gated_controlOk hs fun _ => ?_
  split
  exacts [putLine_controlOk (Line.applySetting_duty _ _ _) hs, refuseWrite_controlOk hs]

/-- A write that is stored where the window is open and changes nothing the invariant reads. -/
theorem store_controlOk (h : Stands s (f s)) (hs : s.controlOk) : (s.gated f).controlOk :=
  gated_controlOk hs fun _ => h.controlOk hs

theorem stands_refuseWrite : Stands s s.refuseWrite := ⟨rfl, fun _ => rfl⟩

theorem writeCommand_controlOk (value : Word) (hs : s.controlOk) : (s.writeCommand value).controlOk := by
  unfold State.writeCommand
  split
  exacts [commanded_controlOk hs fun _ => start_controlOk, commanded_controlOk hs fun _ => stop_controlOk,
    commanded_controlOk hs fun _ => pause_controlOk, commanded_controlOk hs fun _ => resume_controlOk,
    commandReset_controlOk hs, commanded_controlOk hs fun _ hu _ => refuseCommand_controlOk hu]

theorem writeConData_controlOk (value : Word) (hs : s.controlOk) : (s.writeConData value).controlOk :=
  store_controlOk
    (.ite (.ite (stands_setLine ((Line.tend_duty _ _).trans rfl)) ⟨rfl, fun _ => rfl⟩) stands_refuseWrite) hs

theorem writeRegister_controlOk (r : Reg) (value : Word) (hs : s.controlOk) : (s.writeRegister r value).controlOk := by
  cases r with
  | command => exact writeCommand_controlOk value hs
  | lineCmd => exact commanded_controlOk hs fun _ hu _ => lineOperation_controlOk value hu
  | doorbell => exact commanded_controlOk hs fun _ hu _ => ring_controlOk value hu
  | power => exact writePower_controlOk value hs
  | control => exact writeControl_controlOk value hs
  | keepalive => exact writeKeepalive_controlOk value hs
  | lineSetting => exact writeLineSetting_controlOk value hs
  | conData => exact writeConData_controlOk value hs
  | livenessPeriod => exact store_controlOk (.ite stands_refuseWrite ⟨rfl, fun _ => rfl⟩) hs
  | tableBase => exact store_controlOk (.ite ⟨rfl, fun _ => rfl⟩ stands_refuseWrite) hs
  | lineFrame => exact store_controlOk (.ite (stands_onLine (fun l => l.applyFrame _ _) fun _ => rfl) stands_refuseWrite) hs
  | customDivisor | cadence | resweep | coalesce | classIndex | classData | lineSelect =>
    exact store_controlOk ⟨rfl, fun _ => rfl⟩ hs
  | ident | status | eventPeek | eventTake | eventLevel | faultAddr | faultDesc | conStatus | lineState | lineCounts =>
    exact refuseWrite_controlOk hs

theorem writeOffset_controlOk (offset : BitVec 8) (lanes : Lanes) (value : Word) (hs : s.controlOk) :
    (s.writeOffset offset lanes value).controlOk := by
  unfold State.writeOffset
  split
  · exact hs
  · split
    exacts [writeRegister_controlOk _ _ hs, refuseWrite_controlOk hs]

/-! ### Instants of a line -/

theorem atLine_controlOk {f : Line → Line} (h : ∀ l, (f l).duty = l.duty) (hs : s.controlOk) :
    (s.atLine n f).controlOk := by
  unfold State.atLine
  split
  exacts [(stands_setLine (h _)).controlOk hs, hs]

theorem completeAt_controlOk (data : Byte) (parityBit stopBit : Bool) (hs : s.controlOk) :
    (s.completeAt n data parityBit stopBit).controlOk := by
  unfold State.completeAt
  split
  exacts [putLine_controlOk (Line.complete_duty _ _ _) hs, hs]

theorem idleAt_controlOk (hs : s.controlOk) : (s.idleAt n).controlOk := by
  unfold State.idleAt
  split
  exacts [endDoze_controlOk ((stands_setLine (Line.setIdleDue_duty _)).controlOk hs), hs]

/-! ### Commands -/

theorem controlOk_of_command (hf : ∀ u : State, u.settled = true → u.controlOk → (f u).controlOk)
    (h : command f s = .next t) (hs : s.controlOk) : t.controlOk := by
  cases h
  exact stands_watchIdle.controlOk (hf _ s.finishInstant_settled_always (finishInstant_controlOk hs))

theorem controlOk_of_expiry (hf : (f s).controlOk) (h : expiry f s = .next t) : t.controlOk := by
  cases h
  exact stands_watchIdle.controlOk hf

theorem controlOk_of_answered {tag : Nat} (hf : ∀ u : State, u.controlOk → (f u).controlOk)
    (h : answered tag f s = .next t) (hs : s.controlOk) : t.controlOk := by
  cases h
  exact stands_watchIdle.controlOk (hf _ (beforeAnswer_controlOk tag hs))

theorem controlOk_of_exec {c : Instr} (h : exec c s = .next t) (hs : s.controlOk) : t.controlOk := by
  cases c with
  | start => exact controlOk_of_command (fun u _ hu => commanded_controlOk hu fun _ => start_controlOk) h hs
  | stop => exact controlOk_of_command (fun u _ hu => commanded_controlOk hu fun _ => stop_controlOk) h hs
  | pause => exact controlOk_of_command (fun u _ hu => commanded_controlOk hu fun _ => pause_controlOk) h hs
  | resume => exact controlOk_of_command (fun u _ hu => commanded_controlOk hu fun _ => resume_controlOk) h hs
  | hostReset => exact controlOk_of_command (fun u _ hu => commandReset_controlOk hu) h hs
  | pinReset =>
    cases h
    exact pinReset_controlOk s
  | cancelRx value =>
    exact controlOk_of_command (fun u _ hu => commanded_controlOk hu fun w hw _ => (stands_markCancelRx _).controlOk hw)
      h hs
  | cancelTx value =>
    exact controlOk_of_command (fun u _ hu => commanded_controlOk hu fun w hw _ => (stands_markCancelTx _).controlOk hw)
      h hs
  | resetLine value =>
    exact controlOk_of_command (fun u _ hu => commanded_controlOk hu fun _ hw _ => resetLineCmd_controlOk _ hw) h hs
  | doorbell value =>
    exact controlOk_of_command (fun u _ hu => commanded_controlOk hu fun _ hw _ => ring_controlOk value hw) h hs
  | reqActive value => exact controlOk_of_command (fun u _ hu => reqActive_controlOk _ hu) h hs
  | reqDoze value => exact controlOk_of_command (fun u _ hu => reqDoze_controlOk _ hu) h hs
  | reqStandby value => exact controlOk_of_command (fun u _ hu => reqStandby_controlOk _ hu) h hs
  | control value => exact controlOk_of_command (fun u _ hu => writeRegister_controlOk .control value hu) h hs
  | keepalive value => exact controlOk_of_command (fun u _ hu => writeRegister_controlOk .keepalive value hu) h hs
  | livenessPeriod value =>
    exact controlOk_of_command (fun u _ hu => writeRegister_controlOk .livenessPeriod value hu) h hs
  | tableBase value => exact controlOk_of_command (fun u _ hu => writeRegister_controlOk .tableBase value hu) h hs
  | lineSetting value => exact controlOk_of_command (fun u _ hu => writeRegister_controlOk .lineSetting value hu) h hs
  | lineFrame value => exact controlOk_of_command (fun u _ hu => writeRegister_controlOk .lineFrame value hu) h hs
  | customDivisor value =>
    exact controlOk_of_command (fun u _ hu => writeRegister_controlOk .customDivisor value hu) h hs
  | cadence value => exact controlOk_of_command (fun u _ hu => writeRegister_controlOk .cadence value hu) h hs
  | resweep value => exact controlOk_of_command (fun u _ hu => writeRegister_controlOk .resweep value hu) h hs
  | coalesce value => exact controlOk_of_command (fun u _ hu => writeRegister_controlOk .coalesce value hu) h hs
  | classDataWrite value => exact controlOk_of_command (fun u _ hu => writeRegister_controlOk .classData value hu) h hs
  | conDataWrite value => exact controlOk_of_command (fun u _ hu => writeRegister_controlOk .conData value hu) h hs
  | classDataRead lanes | conDataRead lanes | conStatus lanes | eventTake lanes | eventLevel lanes | status lanes =>
    exact controlOk_of_command (fun u _ hu => (stands_readRegister lanes _).controlOk hu) h hs
  | registerWrite offset lanes value =>
    exact controlOk_of_command (fun u _ hu => writeOffset_controlOk offset lanes value hu) h hs
  | visit => exact controlOk_of_expiry (f := fun s => visitNow s.finishGuard) (visitNow_controlOk (finishGuard_controlOk hs)) h
  | wordRead txn answer => exact controlOk_of_answered (fun u hu => answerWordRead_controlOk txn answer hu) h hs
  | wordWrite txn answer => exact controlOk_of_answered (fun u hu => answerWordWrite_controlOk txn answer hu) h hs
  | byteWrite txn answer => exact controlOk_of_answered (fun u hu => answerByteWrite_controlOk txn answer hu) h hs
  | byteRead txn answer => exact controlOk_of_answered (fun u hu => answerByteRead_controlOk txn answer hu) h hs
  | timeout => exact controlOk_of_expiry (finishVisit_controlOk hs) h
  | completion line data parityBit stopBit =>
    exact controlOk_of_command (fun u _ hu => completeAt_controlOk data parityBit stopBit hu) h hs
  | breakSeen line => exact controlOk_of_command (fun u _ hu => completeAt_controlOk 0 false false hu) h hs
  | recoverEnd line => exact controlOk_of_command (fun u _ hu => atLine_controlOk (Line.recoverEnds_duty u) hu) h hs
  | shifterEmpty line => exact controlOk_of_command (fun u _ hu => atLine_controlOk (Line.tellEmpty_duty u) hu) h hs
  | breakDone line => exact controlOk_of_command (fun u _ hu => atLine_controlOk Line.tellBreakDone_duty hu) h hs
  | idleDue line => exact controlOk_of_command (fun u _ hu => idleAt_controlOk hu) h hs
  | fallingEdge line => exact controlOk_of_command (fun u _ hu => atLine_controlOk (Line.fallingEdge_duty u) hu) h hs
  | startBitSample line level =>
    exact controlOk_of_command (fun u _ hu => atLine_controlOk (fun l => l.startSample_duty level) hu) h hs
  | beatBoundary sense => exact controlOk_of_command (fun u hset hu => beat_controlOk sense hset hu) h hs
  | resweepExpiry => exact controlOk_of_expiry (stands_expireResweep.controlOk hs) h
  | tick => exact controlOk_of_expiry (stands_expireTick.controlOk hs) h
  | holdDue line =>
    exact controlOk_of_expiry (f := fun s => s.expireHold line)
      ((stands_setLine (Line.setHoldDue_duty _)).controlOk hs) h
  | guardExpiry =>
    exact controlOk_of_expiry (f := fun s => s.finishVisit.expireGuard)
      (expireGuard_controlOk (finishVisit_controlOk hs)) h
  | automaticDoze =>
    exact controlOk_of_expiry (f := fun s => s.finishTimers.enterAutoDoze)
      (enterAutoDoze_controlOk (finishTimers_controlOk hs)) h
  | standby => exact controlOk_of_expiry (finishInstant_controlOk hs) h
  | wakeEdge starts senses => exact controlOk_of_command (fun u _ hu => wakeEdges_controlOk starts senses hu) h hs
  | wakingEnd => exact controlOk_of_command (fun u _ hu => wakingEnds_controlOk hu) h hs

/-- Settles O36: every operation of a step keeps the sequencer, the memory engine and the power state consistent; a
visit, because it comes to a transaction of its own or to its end. -/
theorem stepsKeepControlConsistent : Obligations.StepsKeepControlConsistent := by
  unfold Obligations.StepsKeepControlConsistent
  intro s t hs h
  unfold step at h
  split at h
  · exact controlOk_of_command (fun u hset hu => clockTick_controlOk hset hu) h hs
  · next c rest _ => exact controlOk_of_exec h (Stands.controlOk (s := s) ⟨rfl, fun _ => rfl⟩ hs)

end Sys2Proof.Machine
end

section
/-! Reset, and the commands to the sequencer and to the power manager (R25 to R28, R157 to R160, R168). -/

namespace Sys2Proof.Machine

variable {s t u : State} {n : LineNo} {f : State → State}

/-- The count of the idle watch may have restarted. -/
theorem Leads.of_idleBeats {r : Result} {k : Nat} (h : Leads r { u with idleBeats := k })
    (hk : k = u.idleBeats ∨ k = 0) : Leads r u := by
  obtain ⟨t, hr, heq, hbeats⟩ := h
  refine ⟨t, hr, heq, ?_⟩
  rcases hbeats with hbeats | hbeats
  · rw [hbeats]
    exact hk
  · exact .inr hbeats

/-! ### Reset -/

/-- Settles O4: the reset state's queues are empty, its counts are 0, and no visit is in progress. -/
theorem resetMeetsEveryInvariant : Obligations.ResetMeetsEveryInvariant := by
  unfold Obligations.ResetMeetsEveryInvariant
  refine ⟨reset_portOk, fun n => ?_, by decide, State.Between.controlOk ⟨rfl, rfl, rfl, nofun, rfl, nofun, fun n => ?_⟩⟩
  · rw [State.line_reset]
    exact Line.unitOk_iff_sound.2 Line.reset_sound
  · rw [State.line_reset]
    exact nofun

/-- Settles O5: each register's word in the reset state, computed. -/
theorem resetReadsAsTheRegisterMap : Obligations.ResetReadsAsTheRegisterMap := by
  unfold Obligations.ResetReadsAsTheRegisterMap
  refine ⟨fun r => ?_, fun n => ⟨by decide, ?_, ?_⟩⟩
  · cases r with
    | classData => simp [State.readWord, classEntry, State.reset, defaultClasses]
    | _ => decide
  · unfold State.ctlPin
    rw [State.line_reset]
    decide
  · rw [State.line_reset]
    decide

/-- The watch on the idle condition finds no count after a reset. -/
theorem hostReset_watchIdle (s : State) : s.hostReset.watchIdle = s.hostReset := by
  unfold State.watchIdle
  split <;> rfl

/-- Settles O6: a reset replaces every block's state; in STANDBY and WAKING HOST_RESET is only held. -/
theorem resetsReturnEveryBlock : Obligations.ResetsReturnEveryBlock := by
  unfold Obligations.ResetsReturnEveryBlock
  refine ⟨fun s => rfl, fun s hset => ⟨fun hopen => ⟨_, ?_, rfl⟩, fun hshut => ?_⟩⟩
  · have hreset : s.commandReset = s.hostReset := by
      unfold State.commandReset
      cases hp : s.power <;> simp_all [State.windowShut]
    rw [exec_hostReset]
    refine (command_settled hset).trans ?_
    rw [hreset, hostReset_watchIdle]
    rfl
  · refine leads_command hset ?_
    unfold State.commandReset
    cases hp : s.power <;> simp_all [State.windowShut]

/-! ### COMMAND (Table 15) -/

/-- A move of the sequencer after a doze has ended (R160). -/
theorem State.endDoze_moveSeq (h : s.windowShut = false) (q : SeqState) :
    s.endDoze.moveSeq q =
      { s.endDoze with
        seq := q
        power := if s.power = .standbyEntry ∧ q.keepsEntry = true then .standbyEntry else .active
        req := if s.power = .standbyEntry ∧ q.keepsEntry = false then .active else s.endDoze.req } := by
  rw [State.moveSeq_eq, State.endDoze_eq]
  cases hp : s.power with
  | standby | waking => simp [State.windowShut, hp] at h
  | active | doze => simp
  | standbyEntry => cases q <;> simp [SeqState.keepsEntry]

theorem State.commanded_open (h : s.windowShut = false) : s.commanded f = f s.endDoze := State.gated_open h

/-- Settles O7: each command by the sequencer state it meets. -/
theorem commandsFollowTable15 : Obligations.CommandsFollowTable15 := by
  unfold Obligations.CommandsFollowTable15
  intro c s hopen
  have hleads (f : State → State) : Leads (command (fun s => s.commanded f) s) (f s.endDoze) :=
    leads_gated_of_open (f := fun s => f s.endDoze) hopen
  have hmove := State.endDoze_moveSeq ((State.open_iff s).1 hopen).2
  have hthrough (p q : SeqState) : s.endDoze.moveThrough p q =
      s.endDoze.moveSeq (if s.visit.isSome then p else q) := by
    unfold State.moveThrough
    rw [State.endDoze_visit]
    split <;> rfl
  cases c with
  | start =>
    have h := hleads State.start
    cases hq : s.seq <;> (simp only [State.start, State.endDoze_seq, hq, hmove] at h; exact h)
  | stop =>
    have h := hleads State.stop
    cases hq : s.seq <;> (simp only [State.stop, State.endDoze_seq, hq, hthrough, hmove] at h; exact h)
  | pause =>
    have h := hleads State.pause
    cases hq : s.seq <;> (simp only [State.pause, State.endDoze_seq, hq, hthrough, hmove] at h; exact h)
  | resume =>
    have h := hleads State.resume
    cases hq : s.seq <;> (simp only [State.resume, State.endDoze_seq, hq, hmove] at h; exact h)

/-! ### LINE_CMD and DOORBELL -/

/-- Settles O8: each write marks the named line of the state in which the doze has ended. -/
theorem cancelsAndDoorbellsMarkTheirLines : Obligations.CancelsAndDoorbellsMarkTheirLines := by
  unfold Obligations.CancelsAndDoorbellsMarkTheirLines
  intro v s hopen
  have hleads (f : State → State) : Leads (command (fun s => s.commanded f) s) (f s.endDoze) :=
    leads_gated_of_open (f := fun s => f s.endDoze) hopen
  rw [← State.endDoze_line s (lineOf v)]
  exact ⟨hleads fun s => s.markCancelRx (lineOf v), hleads fun s => s.markCancelTx (lineOf v), hleads fun s => s.ring v⟩

/-- Settles O9: held where the line is visited; otherwise the line is reset, and a waiting doze looked at. -/
theorem resetLineActsAtOnceOrIsHeld : Obligations.ResetLineActsAtOnceOrIsHeld := by
  unfold Obligations.ResetLineActsAtOnceOrIsHeld
  intro v s hopen
  have hleads : Leads (exec (.resetLine v) s) (s.endDoze.resetLineCmd (lineOf v)) :=
    leads_gated_of_open (f := fun s => s.endDoze.resetLineCmd (lineOf v)) hopen
  refine ⟨fun w hw hline => ?_, fun hne => ?_⟩
  · have hcmd : s.endDoze.resetLineCmd (lineOf v) = { s.endDoze with visit := some { w with resetHeld := true } } := by
      simp only [State.resetLineCmd, State.endDoze_visit, hw, if_pos hline]
    rwa [hcmd] at hleads
  · have hcmd : s.endDoze.resetLineCmd (lineOf v) =
        (s.endDoze.setLine (lineOf v) Line.reset).enterRequestedDoze := by
      unfold State.resetLineCmd State.applyLineReset
      rw [State.endDoze_visit]
      split
      · next w hw => rw [if_neg (hne w hw)]
      · rfl
    rw [hcmd] at hleads
    cases hp : s.power with
    | doze =>
      have hwait : (s.endDoze.setLine (lineOf v) Line.reset).enterRequestedDoze =
          s.endDoze.setLine (lineOf v) Line.reset := by
        rw [State.endDoze_of_doze hp]
        exact if_neg fun h => absurd h.1 (by decide : PowerReq.active ≠ .doze)
      rw [hwait] at hleads
      rwa [if_neg fun h => absurd h.1 (by decide)]
    | _ =>
      have hbarred : s.dozeBarred = false := by
        have := ((State.open_iff s).1 hopen).1
        simp only [State.settled, Bool.and_eq_true, Bool.not_eq_true'] at this
        exact this.1.2
      rw [State.endDoze_of_ne (by simp [hp])] at hleads ⊢
      unfold State.enterRequestedDoze at hleads
      split at hleads
      · next h =>
        simp only [State.mayDoze, Bool.and_eq_true, Bool.not_eq_true', beq_iff_eq, Option.isNone_iff_eq_none] at h
        obtain ⟨hreq, ⟨hactive, hvisit⟩, htx⟩ := h
        rw [if_pos ⟨hp.symm.trans hactive, hreq, hvisit, htx⟩]
        have henter : (s.setLine (lineOf v) Line.reset).enterDoze =
            { s.setLine (lineOf v) Line.reset with power := .doze, idleBeats := 0 } :=
          if_neg (by simp [hbarred])
        rw [henter] at hleads
        exact hleads.of_idleBeats (.inr rfl)
      · next h =>
        rwa [if_neg fun hc => h ⟨hc.2.1, by simp [State.mayDoze, hp, hc.1, hc.2.2.1, hc.2.2.2]⟩]

end Sys2Proof.Machine
end

section
/-! Requests of POWER and writes of the window (R157 to R171). -/

namespace Sys2Proof.Machine

variable {s t u : State} {n : LineNo} {f : State → State}

/-! ### POWER -/

theorem State.dozeBarred_of_settled (h : s.settled = true) : s.dozeBarred = false := by
  simp only [State.settled, Bool.and_eq_true, Bool.not_eq_true'] at h
  exact h.1.2

/-- A requested doze in ACTIVE is entered between visits without an ACTIVE transmit direction, and waits otherwise. -/
theorem State.enterRequestedDoze_of_active (hp : s.power = .active) (hr : s.req = .doze) (hb : s.dozeBarred = false) :
    s.enterRequestedDoze =
      { s with
        power := if s.visit = none ∧ s.anyTxActive = false then .doze else .active
        idleBeats := if s.visit = none ∧ s.anyTxActive = false then 0 else s.idleBeats } := by
  have hmay : s.mayDoze = true ↔ s.visit = none ∧ s.anyTxActive = false := by
    simp [State.mayDoze, hp]
  unfold State.enterRequestedDoze State.enterDoze
  by_cases h : s.visit = none ∧ s.anyTxActive = false
  · simp [hr, hmay, h, hb]
  · simp only [hmay, h, and_false, if_false, ← hp]

/-- Settles O10: the write by the power state it meets. -/
theorem activeRequestActsByPowerState : Obligations.ActiveRequestActsByPowerState := by
  unfold Obligations.ActiveRequestActsByPowerState
  refine fun v s hset => ⟨fun hopen => ?_, fun hshut => ?_⟩
  all_goals
    rw [exec_reqActive]
    refine leads_command_of hset 0 ?_ (.inr rfl)
    unfold State.reqActive
  · cases hp : s.power with
    | active => exact endDoze_storeReq _ _ (.inl hp)
    | doze => exact endDoze_storeReq _ _ (.inr hp)
    | standbyEntry => rfl
    | standby | waking => simp [State.windowShut, hp] at hopen
  · cases hp : s.power with
    | active | doze | standbyEntry => simp [State.windowShut, hp] at hshut
    | standby => rfl
    | waking => simp only [State.storeAuto, ← hp]; rfl

/-- Settles O11: the request is stored in ACTIVE, and then looked at. -/
theorem dozeRequestIsEnteredOrWaits : Obligations.DozeRequestIsEnteredOrWaits := by
  unfold Obligations.DozeRequestIsEnteredOrWaits
  refine fun v s hset => ⟨fun hopen => ?_, fun hshut => ?_⟩
  · rw [exec_reqDoze]
    let u : State := { s with power := .active, req := .doze, autoDoze := autoDozeBit v, idleBeats := 0 }
    have hreq : s.reqDoze (autoDozeBit v) = u.enterRequestedDoze := by
      unfold State.reqDoze
      cases hp : s.power with
      | active => exact congrArg State.enterRequestedDoze (endDoze_storeReq _ _ (.inl hp))
      | doze => exact congrArg State.enterRequestedDoze (endDoze_storeReq _ _ (.inr hp))
      | standbyEntry => rfl
      | standby | waking => simp [State.windowShut, hp] at hopen
    have hbarred := State.dozeBarred_of_settled hset
    refine leads_command_of hset 0 ?_ (.inr rfl)
    rw [hreq, State.enterRequestedDoze_of_active (s := u) rfl rfl hbarred]
    simp only [u, ite_self]
    rfl
  · rw [exec_reqDoze]
    have hrefuse : s.reqDoze (autoDozeBit v) = s.refuseWrite := by
      unfold State.reqDoze
      cases hp : s.power with
      | active | doze | standbyEntry => simp [State.windowShut, hp] at hshut
      | standby | waking => rfl
    exact leads_command hset hrefuse

/-- Settles O12: the write by the power state it meets, and by the sequencer state where it may be accepted. -/
theorem standbyRequestNeedsAStoppedSequencer : Obligations.StandbyRequestNeedsAStoppedSequencer := by
  unfold Obligations.StandbyRequestNeedsAStoppedSequencer
  refine fun v s hset => ⟨fun hp => ⟨fun hq => ?_, fun hq => ?_⟩, fun hp => ?_, fun hshut => ?_⟩
  all_goals rw [exec_reqStandby]
  · have hmay : s.mayStandby = true := by simpa [State.mayStandby] using hq
    have hentry : s.reqStandby (autoDozeBit v) =
        { s.endDoze.storeReq .standby (autoDozeBit v) with power := .standbyEntry } := by
      rcases hp with hp | hp <;> simp only [State.reqStandby, hp, hmay, if_true]
    refine leads_command_of hset 0 (hentry.trans ?_) (.inr rfl)
    rw [endDoze_storeReq _ _ hp]
    rfl
  · have hmay : s.mayStandby = false := by simpa [State.mayStandby] using hq
    have hrefuse : s.reqStandby (autoDozeBit v) = s.endDoze.refuseWrite := by
      rcases hp with hp | hp <;> simp only [State.reqStandby, hp, hmay, Bool.false_eq_true, if_false]
    exact leads_command hset hrefuse
  · have hauto : s.reqStandby (autoDozeBit v) = s.storeAuto (autoDozeBit v) := by simp only [State.reqStandby, hp]
    exact leads_command_of hset 0 hauto (.inr rfl)
  · have hrefuse : s.reqStandby (autoDozeBit v) = s.refuseWrite := by
      unfold State.reqStandby
      cases hp : s.power with
      | active | doze | standbyEntry => simp [State.windowShut, hp] at hshut
      | standby | waking => rfl
    exact leads_command hset hrefuse

/-! ### The guard's period -/

/-- Settles O15: the gate, the effect of a CONTROL write on the guard, and the registers every other command leaves. -/
theorem livenessPeriodIsLockedWhileArmed : Obligations.LivenessPeriodIsLockedWhileArmed := by
  unfold Obligations.LivenessPeriodIsLockedWhileArmed
  refine ⟨fun v s hopen => leads_gated_of_open hopen, fun s => setWidth_eq_append_zeros _, fun v s hopen => ?_, ?_,
    fun c s t hc hexec => ?_⟩
  · obtain ⟨t, hnext, heq, -⟩ := leads_control hopen v
    refine ⟨t, hnext, ?_⟩
    rw [heq]
    refine ⟨rfl, rfl, fun hbit => ?_, fun hbit hen => ?_, fun hbit hen => ?_⟩
    · simp only [State.takeControl, hbit, Bool.false_and, Bool.or_false, Bool.false_eq_true, if_false, and_self]
    · simp only [State.takeControl, hbit, hen, Bool.not_false, Bool.and_true, Bool.or_true, if_true,
        true_and]
      exact (State.guardPeriod_eq s).symm
    · simp only [State.takeControl, hbit, hen, Bool.true_or, Bool.not_true, Bool.and_false, Bool.or_false,
        Bool.false_eq_true, if_false, and_self]
  · rintro s u (rfl | rfl) <;> exact ⟨rfl, rfl, rfl, rfl⟩
  · obtain ⟨-, -, -, -, -, harmed, hperiod⟩ := ControlRegs.mk.inj (controlRegs_of_leavesControl hc hexec)
    exact ⟨harmed, hperiod⟩

/-! ### Stored registers -/

/-- The table address bits are bits 31:10 (R3). -/
theorem tableBits_eq (v : Word) : tableBits v = v.extractLsb' 10 22 ++ 0#10 := by
  apply BitVec.eq_of_getLsbD_eq
  intro i hi
  rw [tableBits, BitVec.getLsbD_and]
  refine Eq.trans ?_ (BitVec.getLsbD_append (x := v.extractLsb' 10 22) (y := 0#10)).symm
  rw [BitVec.getLsbD_extractLsb']
  interval_cases i <;> simp

/-- Settles O16: each write through the gate. -/
theorem storedRegistersTakeTheirFields : Obligations.StoredRegistersTakeTheirFields := by
  unfold Obligations.StoredRegistersTakeTheirFields
  refine fun v s hopen => ⟨?_, leads_gated_of_open hopen, leads_gated_of_open hopen, leads_gated_of_open hopen,
    leads_gated_of_open hopen⟩
  rw [← tableBits_eq]
  exact leads_gated_of_open hopen

/-! ### The decoding of a write -/

/-- A whole-word write of a register is that register's write (R170). -/
theorem State.writeOffset_whole {offset : BitVec 8} {r : Reg} (h : regAt offset = some r) (v : Word) :
    s.writeOffset offset wholeWord v = s.writeRegister r v := by
  simp only [State.writeOffset, h, if_true]

theorem leads_registerWrite_narrow {offset : BitVec 8} {lanes : Lanes} {r : Reg} (hreg : regAt offset = some r)
    (hlanes : lanes ≠ wholeWord) (v : Word) (hset : s.settled = true) :
    Leads (exec (.registerWrite offset lanes v) s) { s with writeIgnored := true } := by
  rw [exec_registerWrite]
  exact leads_command hset (State.writeOffset_of_narrow hreg hlanes v)

theorem leads_registerWrite {offset : BitVec 8} {r : Reg} (hreg : regAt offset = some r) (v : Word)
    (hset : s.settled = true) (e : s.writeRegister r v = u) :
    Leads (exec (.registerWrite offset wholeWord v) s) u := by
  rw [exec_registerWrite]
  exact leads_command hset ((State.writeOffset_whole hreg v).trans e)

theorem byte_setWidth_eq_append_zeros (x : Byte) : x.setWidth 32 = (0#24 ++ x : Word) :=
  BitVec.setWidth_eq_append (by decide)

/-- Settles O17: accesses of the two registers through the gate, and reads past it. -/
theorem classDataAccessesAdvanceTheIndex : Obligations.ClassDataAccessesAdvanceTheIndex := by
  unfold Obligations.ClassDataAccessesAdvanceTheIndex
  refine ⟨fun v s hopen => ⟨leads_gated_of_open hopen, ?_⟩, fun lanes s hset => ?_,
    fun s => ⟨byte_setWidth_eq_append_zeros _, rfl⟩, fun lanes v s hset hlanes => ⟨?_, ?_⟩,
    fun v s hset hshut => ⟨?_, leads_gated_of_shut hset hshut⟩⟩
  · exact leads_registerWrite (r := .classIndex) rfl v ((State.open_iff s).1 hopen).1
      (State.gated_open (f := fun s => { s with classIndex := v.extractLsb' 0 8 }) ((State.open_iff s).1 hopen).2)
  · rw [exec_classDataRead, ← byte_setWidth_eq_append_zeros]
    exact leads_command hset rfl
  · exact leads_registerWrite_narrow (r := .classIndex) rfl hlanes v hset
  · exact leads_registerWrite_narrow (r := .classData) rfl hlanes v hset
  · exact leads_registerWrite (r := .classIndex) rfl v hset
      (State.gated_shut (f := fun s => { s with classIndex := v.extractLsb' 0 8 }) hshut)

/-- Settles O18: every such row is a gated write. -/
theorem shutWindowRefusesWrites : Obligations.ShutWindowRefusesWrites := by
  unfold Obligations.ShutWindowRefusesWrites
  intro c s hc hset hshut
  cases c with
  | start | stop | pause | resume | cancelRx | cancelTx | resetLine | doorbell =>
    simp only [exec_start, exec_stop, exec_pause, exec_resume, exec_cancelRx, exec_cancelTx, exec_resetLine,
      exec_doorbell, State.writeDoorbell, State.commanded]
    exact leads_gated_of_shut hset hshut
  | control | keepalive | livenessPeriod | tableBase | lineSetting | lineFrame | customDivisor | cadence | resweep
  | coalesce | classDataWrite | conDataWrite =>
    simp only [exec_control, exec_keepalive, exec_livenessPeriod, exec_tableBase, exec_lineSetting, exec_lineFrame,
      exec_customDivisor, exec_cadence, exec_resweep, exec_coalesce, exec_classDataWrite, exec_conDataWrite]
    exact leads_gated_of_shut hset hshut
  | _ => exact absurd hc (by simp [Instr.gatedWrite])

theorem lineCmdRow_cases (v : Word) :
    v.extractLsb' 8 2 = 0#2 ∧ lineCmdRow v = none ∨ v.extractLsb' 8 2 = 1#2 ∧ lineCmdRow v = some (.cancelRx v) ∨
      v.extractLsb' 8 2 = 2#2 ∧ lineCmdRow v = some (.cancelTx v) ∨
      v.extractLsb' 8 2 = 3#2 ∧ lineCmdRow v = some (.resetLine v) := by
  unfold lineCmdRow
  generalize v.extractLsb' 8 2 = x
  rcases threshold_code_cases x with rfl | rfl | rfl | rfl <;> simp

theorem powerRow_cases (v : Word) :
    v.extractLsb' 0 2 = 0#2 ∧ powerRow v = some (.reqActive v) ∨
      v.extractLsb' 0 2 = 1#2 ∧ powerRow v = some (.reqDoze v) ∨
      v.extractLsb' 0 2 = 2#2 ∧ powerRow v = some (.reqStandby v) ∨ v.extractLsb' 0 2 = 3#2 ∧ powerRow v = none := by
  unfold powerRow
  generalize v.extractLsb' 0 2 = x
  rcases threshold_code_cases x with rfl | rfl | rfl | rfl <;> simp

/-- A whole-word write of a register is the row it spells (Table 44). -/
theorem exec_registerWrite_row {offset : BitVec 8} {r : Reg} (hreg : regAt offset = some r) (v : Word) {c : Instr}
    (hrow : writeRow r v = some c) (s : State) : exec (.registerWrite offset wholeWord v) s = exec c s := by
  have hwrite : exec (.registerWrite offset wholeWord v) s = command (fun s => s.writeRegister r v) s := by
    rw [exec_registerWrite]
    exact congrArg (fun u : State => (.next u.watchIdle : Result)) (State.writeOffset_whole hreg v)
  rw [hwrite]
  cases r with
  | command =>
    simp only [writeRow] at hrow
    unfold State.writeRegister State.writeCommand
    simp only [hrow]
    unfold commandRow at hrow
    split_ifs at hrow <;> (cases hrow; rfl)
  | lineCmd =>
    simp only [writeRow] at hrow
    unfold State.writeRegister State.writeLineCmd State.lineOperation
    rcases lineCmdRow_cases v with ⟨-, h⟩ | ⟨hx, h⟩ | ⟨hx, h⟩ | ⟨hx, h⟩ <;> rw [h] at hrow <;> cases hrow <;>
      (rw [hx]; rfl)
  | power =>
    simp only [writeRow] at hrow
    unfold State.writeRegister State.writePower
    rcases powerRow_cases v with ⟨hx, h⟩ | ⟨hx, h⟩ | ⟨hx, h⟩ | ⟨-, h⟩ <;> rw [h] at hrow <;> cases hrow <;>
      (rw [hx]; rfl)
  | ident | status | eventPeek | eventTake | eventLevel | classIndex | faultAddr | faultDesc | conStatus
  | lineSelect | lineState | lineCounts => exact absurd hrow (by simp [writeRow])
  | _ => cases hrow; rfl

/-- Settles O19: where the write has a row of its own it acts as that row, and elsewhere it is its own row. -/
theorem wholeWordWritesAreTheirRows : Obligations.WholeWordWritesAreTheirRows := by
  unfold Obligations.WholeWordWritesAreTheirRows
  intro offset v s
  unfold decodeWrite
  rw [if_pos rfl]
  cases hreg : regAt offset with
  | none => rfl
  | some r =>
    cases hrow : writeRow r v with
    | none => simp only [hrow, Option.getD_none]
    | some c => simpa only [hrow, Option.getD_some] using exec_registerWrite_row hreg v hrow s

end Sys2Proof.Machine
end

section
/-! What the transmitter does when it can act, case by case (R55, R105, R121 to R123), and the writes of LINE_SETTING,
LINE_FRAME and the console (R65, R150 to R153). -/

namespace Sys2Proof.Machine

variable {s t u : State} {l : Line} {n : LineNo} {f : State → State}

/-! ### Decoding -/

/-- Settles O20: a well-formed write's own row is the one its register and value spell. -/
theorem writeDecodingInvertsEncoding : Obligations.WriteDecodingInvertsEncoding := by
  unfold Obligations.WriteDecodingInvertsEncoding
  intro c offset lanes v hwf henc
  have hrow {r : Reg} (hreg : regAt offset = some r) (hlanes : lanes = wholeWord) (hrow : writeRow r v = some c) :
      decodeWrite offset lanes v = c := by
    rw [decodeWrite, if_pos hlanes, hreg]
    simp only [hrow, Option.getD_some]
  cases c with
  | registerWrite offset' lanes' v' =>
    cases henc
    simp only [Instr.wellFormed, Bool.and_eq_true, beq_iff_eq] at hwf
    exact hwf.2
  | cancelRx w | cancelTx w | resetLine w =>
    cases henc
    exact hrow (r := .lineCmd) rfl rfl (of_decide_eq_true hwf)
  | reqActive w | reqDoze w | reqStandby w =>
    cases henc
    exact hrow (r := .power) rfl rfl (of_decide_eq_true hwf)
  | start | stop | pause | resume | hostReset =>
    cases henc
    exact hrow (r := .command) rfl rfl rfl
  | doorbell | control | keepalive | livenessPeriod | tableBase | lineSetting | lineFrame | customDivisor | cadence
  | resweep | coalesce | classDataWrite | conDataWrite =>
    cases henc
    exact hrow rfl rfl rfl
  | _ => exact absurd henc (by simp [encodeWrite])

theorem State.writeCommand_of_none {v : Word} (h : commandRow v = none) :
    s.writeCommand v = s.commanded State.refuseCommand := by
  unfold State.writeCommand
  rw [h]

/-- Settles O21: by the register the offset names and, in an open window, by the value. -/
theorem registerWritesAreStoredOrRefused : Obligations.RegisterWritesAreStoredOrRefused := by
  unfold Obligations.RegisterWritesAreStoredOrRefused
  intro offset lanes v s hset
  dsimp only
  have hinvalid (h : (regAt offset = some .command ∧ commandRow v = none) ∨
      (regAt offset = some .lineCmd ∧ v.extractLsb' 8 2 = 0#2)) :
      exec (.registerWrite offset wholeWord v) s = command (fun s => s.commanded State.refuseCommand) s := by
    rw [exec_registerWrite]
    refine congrArg (fun u : State => (.next u.watchIdle : Result)) ?_
    rcases h with ⟨hreg, hrow⟩ | ⟨hreg, hx⟩
    · exact (State.writeOffset_whole hreg v).trans (State.writeCommand_of_none hrow)
    · refine (State.writeOffset_whole hreg v).trans ?_
      unfold State.writeRegister State.writeLineCmd State.lineOperation
      rw [hx]
      rfl
  have hreserved (h : regAt offset = some .power ∧ v.extractLsb' 0 2 = 3#2) :
      exec (.registerWrite offset wholeWord v) s = command State.reqInvalid s := by
    rw [exec_registerWrite]
    refine congrArg (fun u : State => (.next u.watchIdle : Result)) ((State.writeOffset_whole h.1 v).trans ?_)
    unfold State.writeRegister State.writePower
    rw [h.2]
    rfl
  refine ⟨fun hreg => ?_, fun hlanes hreg => ?_, fun hread => ?_,
    fun hopen => ⟨fun hreg => ?_, fun hreg => ?_, fun h => ?_, fun h => ?_⟩, fun hshut h => ?_⟩
  · rw [exec_registerWrite]
    exact leads_command hset (by simp only [State.writeOffset, hreg])
  · obtain ⟨r, hr⟩ := Option.isSome_iff_exists.1 hreg
    exact leads_registerWrite_narrow hr hlanes v hset
  · obtain ⟨r, hr, hro⟩ := Option.map_eq_some_iff.1 hread
    by_cases hlanes : lanes = wholeWord
    · rw [hlanes]
      refine leads_registerWrite hr v hset ?_
      cases r <;> first | rfl | exact absurd hro (by decide)
    · exact leads_registerWrite_narrow hr hlanes v hset
  · exact leads_registerWrite hreg v hset (State.gated_open (f := fun s => { s with classIndex := v.extractLsb' 0 8 }) hopen)
  · exact leads_registerWrite hreg v hset (State.gated_open (f := fun s => { s with lineSelect := lineOf v }) hopen)
  · rw [hinvalid h]
    exact leads_command hset (State.commanded_open hopen)
  · rw [hreserved h]
    exact leads_command hset rfl
  · rcases h with hreg | hreg | h | h
    · exact leads_registerWrite hreg v hset
        (State.gated_shut (f := fun s => { s with classIndex := v.extractLsb' 0 8 }) hshut)
    · exact leads_registerWrite hreg v hset (State.gated_shut (f := fun s => { s with lineSelect := lineOf v }) hshut)
    · rw [hinvalid h]
      exact leads_gated_of_shut hset hshut
    · rw [hreserved h]
      refine leads_command hset ?_
      unfold State.reqInvalid
      rw [State.endDoze_of_ne fun hp => by simp [State.windowShut, hp] at hshut]
      rfl

/-! ### The transmitter's act -/

/-- Out of hold state the hold timer does not run (R62). -/
theorem Line.tendHoldTimer_of_not_inHold (h : l.inHold = false) :
    l.tendHoldTimer = { l with holdCount := 0, holdStopped := false } := by
  rw [Line.tendHoldTimer_eq]
  simp [Line.holdTimed, h]

/-- An owed abort pair goes first (R122). -/
theorem Line.tend_abort (hs : l.shifter = .empty) (hh : l.inHold = false) (ha : l.abortPending = true) :
    Line.tend s l = (l.sendAbort (s.formatOf l)).tendHoldTimer := by
  unfold Line.tend Line.feedShifter
  simp [hs, hh, ha]

/-- An underrun sends an abort pair and raises UNDERRUN_DUE (R123). -/
theorem Line.tend_underrun (hs : l.shifter = .empty) (hh : l.inHold = false) (ha : l.abortPending = false)
    (hu : l.underruns (s.seq == .quiesced) = true) :
    Line.tend s l = ({ l.sendAbort (s.formatOf l) with underrunDue := true } : Line).tendHoldTimer := by
  unfold Line.tend Line.feedShifter
  simp [hs, hh, ha, hu]

/-- A byte in holding enters the shifter: a payload byte of a framed line as its expanded sequence, any other as one
character (R55, R121). -/
theorem Line.tend_holding {h : Holding} (hs : l.shifter = .empty) (hh : l.inHold = false)
    (ha : l.abortPending = false) (hu : l.underruns (s.seq == .quiesced) = false) (hl : l.holding = some h) :
    Line.tend s l =
      (if l.framed && h.source == .order then l.sendPayload (s.formatOf l) h
      else l.sendCharacter (s.formatOf l) h).tendHoldTimer := by
  unfold Line.tend Line.feedShifter
  simp [hs, hh, ha, hu, hl]

/-- Out of the payload phase there is no underrun (R123). -/
theorem Line.underruns_of_phase {q : Bool} (h : l.txPhase ≠ .payload) : l.underruns q = false := by
  simp [Line.underruns, h]

/-! ### LINE_SETTING -/

/-- The modes of a new setting word (R63, R64). -/
theorem Line.changeModes_framed {w : Word} (h : setFramed w = l.framed) :
    l.changeModes w = { l.storeSetting w with inbandHold := l.inbandHold && !(setInband l.setting && !setInband w) } := by
  unfold Line.changeModes
  rw [if_neg (not_not.2 h)]
  split
  · next hi => simp [hi]
  · next hi =>
    simp only [hi, Bool.not_false, Bool.and_true]
    rfl

theorem Line.changeModes_refram {w : Word} (h : setFramed w ≠ l.framed) :
    l.changeModes w = (l.storeSetting w).resetFraming := if_pos h

/-- A new HOLD_LIMIT is looked at on the count reached (R62). -/
theorem Line.checkHoldLimit_eq {w : Word} (h : l.setting = w) :
    l.checkHoldLimit =
      if setHoldLimit w ≠ 0 ∧ l.holdStopped = false ∧ setHoldLimit w * 64 ≤ l.holdCount then
        { l with holdStopped := true, holdDue := true }
      else l := by
  subst h
  refine if_congr ?_ rfl rfl
  change (setHoldLimit l.setting * 64 != 0 && !l.holdStopped && decide (setHoldLimit l.setting * 64 ≤ l.holdCount)) =
    true ↔ _
  simp [and_assoc]

/-- A new IDLE_GAP is looked at on the bit periods counted (R61). -/
theorem Line.checkIdleGap_eq {w : Word} (h : l.setting = w) (f : Format) :
    l.checkIdleGap f =
      if l.idleStarted = true ∧ setIdleGap w ≠ 0 ∧ setIdleGap w * bitPeriods f ≤ l.idleBits then
        { l with idleStarted := false, idleDue := true }
      else l := by
  subst h
  unfold Line.checkIdleGap Line.idleEnded Line.idleLimit Line.setIdleDue
  by_cases hr : l.idleRuns = true
  · have hr' : l.idleStarted = true ∧ setIdleGap l.setting ≠ 0 := by simpa [Line.idleRuns] using hr
    simp [hr, hr']
  · have hr' : ¬(l.idleStarted = true ∧ setIdleGap l.setting ≠ 0) := by simpa [Line.idleRuns] using hr
    rw [if_neg (by simp [hr]), if_neg fun h => hr' ⟨h.1, h.2.1⟩]

/-- What a line accepts as a setting (R65). -/
theorem Line.acceptsSetting_iff (l : Line) (w : Word) :
    l.acceptsSetting w = true ↔ settingValid w = true ∧ (setFramed w = true → l.markChar ≠ l.escapeChar) ∧
      (setFramed w ≠ l.framed → l.rxOrder = none ∧ l.txOrder = none ∧ l.drained = true) := by
  simp only [Line.acceptsSetting, Bool.and_eq_true, Bool.or_eq_true, beq_iff_eq, Option.isNone_iff_eq_none,
    Bool.not_eq_true', Bool.and_eq_false_iff, beq_eq_false_iff_ne]
  constructor
  · rintro ⟨⟨hv, hf⟩, hm⟩
    exact ⟨hv, fun h => hm.resolve_left (by simp [h]), fun h => by simpa [and_assoc] using hf.resolve_left h⟩
  · rintro ⟨hv, hm, hf⟩
    refine ⟨⟨hv, ?_⟩, ?_⟩
    · by_cases h : setFramed w = l.framed
      · exact .inl h
      · exact .inr (by simpa [and_assoc] using hf h)
    · cases h : setFramed w with
      | true => exact .inr (hm h)
      | false => exact .inl rfl

/-- A setting taken up brings no entry to the queue (R64). -/
theorem Line.applySetting_queue_le (s : State) (l : Line) (w : Word) :
    (Line.applySetting s l w).queue.length ≤ l.queue.length := by
  rw [Line.applySetting_eq, Line.tend_eq]
  change (l.changeModes w).queue.length ≤ _
  unfold Line.changeModes
  split_ifs
  · exact Nat.zero_le _
  all_goals exact Nat.le_refl _

/-- A line that gains no entry tells the power manager only an IDLE_DUE that has become set (R159). -/
theorem Line.tells_of_queue_le {l' : Line} (h : l'.queue.length ≤ l.queue.length) :
    l.tells l' = true ↔ l.idleDue = false ∧ l'.idleDue = true := by
  simp only [Line.tells, Bool.or_eq_true, Bool.and_eq_true, Bool.not_eq_true', decide_eq_true_eq]
  exact or_iff_right (Nat.not_lt.2 h)

/-- LINE_SETTING through the gate (R65). -/
theorem leads_lineSetting (hopen : s.open = true) (v : Word) :
    Leads (exec (.lineSetting v) s)
      (if s.seq = .stopped ∧ (s.line s.lineSelect).acceptsSetting v = true then
        (if (s.line s.lineSelect).idleDue = false ∧
            (Line.applySetting s (s.line s.lineSelect) v).idleDue = true then
          (s.setLine s.lineSelect (Line.applySetting s (s.line s.lineSelect) v)).endDoze
        else s.setLine s.lineSelect (Line.applySetting s (s.line s.lineSelect) v))
      else s.refuseWrite) := by
  rw [exec_lineSetting]
  obtain ⟨hset, hshut⟩ := (State.open_iff s).1 hopen
  refine leads_command hset ((State.gated_open hshut).trans ?_)
  unfold State.putLine
  simp only [Line.tells_of_queue_le (Line.applySetting_queue_le s (s.line s.lineSelect) v)]

/-- Settles O22: the modes change, the transmitter acts, and both limits are looked at again. -/
theorem lineSettingIsCheckedThenApplied : Obligations.LineSettingIsCheckedThenApplied := by
  unfold Obligations.LineSettingIsCheckedThenApplied
  intro v s hopen
  have hleads := leads_lineSetting hopen v
  simp only [Line.acceptsSetting_iff] at hleads
  have hchanged : (s.line s.lineSelect).changeModes v =
      if setFramed v = (s.line s.lineSelect).framed then
        { (s.line s.lineSelect).storeSetting v with
          inbandHold := (s.line s.lineSelect).inbandHold &&
            !(setInband (s.line s.lineSelect).setting && !setInband v) }
      else ((s.line s.lineSelect).storeSetting v).resetFraming := by
    split
    · next h => exact Line.changeModes_framed h
    · next h => exact Line.changeModes_refram h
  intro l f kept changed held timed after inHold followed
  have hmodes : l.changeModes v = changed := hchanged
  have hsetting : changed.setting = v := by rw [← hmodes, Line.changeModes_eq]
  have hsense : changed.sense = l.sense := by rw [← hmodes, Line.changeModes_eq]
  have hshifter : changed.shifter = l.shifter := by rw [← hmodes, Line.changeModes_eq]
  have hhold : changed.holdCount = l.holdCount ∧ changed.holdStopped = l.holdStopped ∧
      changed.underrunDue = l.underrunDue := by
    rw [← hmodes, Line.changeModes_eq]
    exact ⟨rfl, rfl, rfl⟩
  have hchars : changed.escapeChar = l.escapeChar ∧ changed.markChar = l.markChar := by
    rw [← hmodes, Line.changeModes_eq]
    exact ⟨rfl, rfl⟩
  have hafter : Line.applySetting s l v = after := by
    unfold Line.applySetting
    have htend : (Line.tend s changed).setting = v := by rw [Line.tend_eq]; exact hsetting
    have hheld : (Line.tend s changed).checkHoldLimit = held (Line.tend s changed) := Line.checkHoldLimit_eq htend
    have hheldSetting : (held (Line.tend s changed)).setting = v := by
      dsimp only [held]
      split <;> exact htend
    rw [hmodes, hheld]
    exact Line.checkIdleGap_eq hheldSetting _
  have hinHold : changed.inHold = true ↔ inHold := by
    simp only [Line.inHold, hsetting, hsense, inHold, Bool.or_eq_true, Bool.and_eq_true, Bool.not_eq_true']
  have hfollowed (k : Line) (hcount : k.holdCount = l.holdCount) (hstopped : k.holdStopped = l.holdStopped) :
      k.tendHoldTimer = followed k := by
    rw [Line.tendHoldTimer_eq, hcount, hstopped]
  refine ⟨by rw [← hafter]; exact hleads, fun hseq => ⟨fun hcalm => ?_, fun hfree hno habort => ?_,
    fun h hfree hno habort hh hphase hraw => ?_⟩⟩
  · have hc : changed.calm s := by
      rcases hcalm with h | h | ⟨h1, h2, h3⟩
      · exact .inl (hshifter ▸ h)
      · exact .inr (.inl (hinHold.2 h))
      · exact .inr (.inr ⟨h1, Line.underruns_of_phase h3, h2⟩)
    rw [Line.tend_of_calm hc, hfollowed _ hhold.1 hhold.2.1]
  · have hno' : changed.inHold = false := by
      by_contra hin
      exact hno (hinHold.1 (by simpa using hin))
    have hformat : s.formatOf changed = f := by
      unfold State.formatOf
      rw [hsetting]
    cases ha : changed.abortPending with
    | true =>
      refine (Line.tend_abort (hshifter.trans hfree) hno' ha).trans ((hfollowed (changed.sendAbort _) hhold.1 hhold.2.1).trans ?_)
      have hdue : (l.underrunDue || !true) = changed.underrunDue := by
        rw [← hhold.2.2]
        exact Bool.or_false _
      rw [hdue, ← hchars.1, ← hchars.2, ← hformat]
      rfl
    | false =>
      have hu : changed.underruns (s.seq == .quiesced) = true := by
        rcases habort with h | ⟨h1, h2⟩
        · exact absurd (ha.symm.trans h) (by decide)
        · simp [Line.underruns, h1, h2, hseq]
      refine (Line.tend_underrun (hshifter.trans hfree) hno' ha hu).trans
        ((hfollowed { changed.sendAbort _ with underrunDue := true } hhold.1 hhold.2.1).trans ?_)
      have hdue : (l.underrunDue || !false) = true := Bool.or_true _
      rw [hdue, ← hchars.1, ← hchars.2, ← hformat]
      rfl
  · have hno' : changed.inHold = false := by
      by_contra hin
      exact hno (hinHold.1 (by simpa using hin))
    have hformat : s.formatOf changed = f := by
      unfold State.formatOf
      rw [hsetting]
    have hraw' : (changed.framed && h.source == .order) = false := by
      unfold Line.framed
      rw [hsetting]
      rcases hraw with h1 | h1 <;> simp [h1]
    refine (Line.tend_holding (hshifter.trans hfree) hno' habort (Line.underruns_of_phase hphase) hh).trans ?_
    rw [hraw', if_neg (by simp)]
    refine (hfollowed (changed.sendCharacter _ h) hhold.1 hhold.2.1).trans ?_
    rw [Line.sendCharacter_eq, hformat]

/-- Settles O23: what the setting leaves of the line, and the checks that refuse it. -/
theorem lineSettingTouchesTheSelectedLineOnly : Obligations.LineSettingTouchesTheSelectedLineOnly := by
  unfold Obligations.LineSettingTouchesTheSelectedLineOnly
  intro v s hopen hseq
  have hleads := leads_lineSetting hopen v
  simp only [Line.acceptsSetting_iff] at hleads
  intro l
  refine ⟨fun ⟨hvalid, hframed, hchars⟩ => ?_, fun hrefused => ?_⟩
  · have hacc : s.seq = .stopped ∧ settingValid v = true ∧ (setFramed v = true → l.markChar ≠ l.escapeChar) ∧
        (setFramed v ≠ l.framed → l.rxOrder = none ∧ l.txOrder = none ∧ l.drained = true) :=
      ⟨hseq, hvalid, hchars, fun h => absurd hframed h⟩
    rw [if_pos hacc] at hleads
    obtain ⟨t, hnext, hagrees⟩ := hleads
    have hline : t.line s.lineSelect = Line.applySetting s l v := by
      rw [hagrees.1]
      split
      · change (s.setLine s.lineSelect _).endDoze.line _ = _
        rw [State.endDoze_line, State.line_setLine_self]
      · exact State.line_setLine_self _ _ _
    refine ⟨t, hnext, ?_⟩
    rw [hline]
    refine ⟨?_, ?_⟩
    · split at hagrees
      · next h => rwa [if_pos h]
      · next h => rwa [if_neg h]
    · have hmodes := Line.changeModes_framed (l := l) hframed
      rw [Line.applySetting_eq, Line.tend_eq, hmodes]
      exact ⟨rfl, rfl, rfl, rfl, rfl⟩
  · rw [if_neg] at hleads
    · exact hleads
    · rintro ⟨-, hvalid, -, hfree⟩
      rcases hrefused with h | ⟨h, h'⟩
      · exact absurd (hvalid.symm.trans h) (by decide)
      · obtain ⟨h1, h2, h3⟩ := hfree h
        simp [h1, h2, h3, l] at h'

/-! ### LINE_FRAME and the console -/

/-- Settles O24: the checks of R65 and the two characters. -/
theorem lineFrameIsCheckedThenApplied : Obligations.LineFrameIsCheckedThenApplied := by
  unfold Obligations.LineFrameIsCheckedThenApplied
  intro v s hopen
  have hacc (l : Line) : l.acceptsFrame v = true ↔
      v.extractLsb' 16 16 = 0#16 ∧ (l.framed = true → v.extractLsb' 0 8 ≠ v.extractLsb' 8 8) := by
    simp only [Line.acceptsFrame, frameUpperZero, frameMark, frameEscape, Bool.and_eq_true, beq_iff_eq,
      Bool.not_eq_true', Bool.and_eq_false_iff, beq_eq_false_iff_ne]
    cases l.framed <;> simp
  simp only [← hacc]
  exact leads_gated_of_open hopen

/-- Settles O25: a byte that finds holding empty is loaded, and the transmitter then acts. -/
theorem consoleWriteLoadsOrIsLost : Obligations.ConsoleWriteLoadsOrIsLost := by
  unfold Obligations.ConsoleWriteLoadsOrIsLost
  intro v s hopen l h
  have hleads : Leads (exec (.conDataWrite v) s)
      (if s.consoleActive then s.conWrite (v.extractLsb' 0 8) else s.refuseWrite) := leads_gated_of_open hopen
  have hload (hc : s.consoleActive = true) (hh : (s.line 0).holding = none) :
      Leads (exec (.conDataWrite v) s) (s.setLine 0 (Line.tend s (l.loadConsole (v.extractLsb' 0 8)))) := by
    rw [if_pos hc, State.conWrite, hh] at hleads
    exact hleads
  refine ⟨fun hc => ?_, fun hc hh => ?_, fun hc hh hbusy => ?_, fun hc hd hno hphase => ?_⟩
  · rw [if_neg (by simp [hc])] at hleads
    exact hleads
  · have hfull : (s.line 0).holding.isNone = false := by simpa [l] using hh
    rw [if_pos hc, State.conWrite, hfull] at hleads
    exact hleads
  · have hcalm : (l.loadConsole (v.extractLsb' 0 8)).calm s := by
      rcases hbusy with hb | hb
      exacts [.inl hb, .inr (.inl hb)]
    have htimed : (l.loadConsole (v.extractLsb' 0 8)).holdTimed = (l.inHold && l.txOrder.isSome) := by
      change (l.inHold && l.txOrder.isSome && true) = _
      rw [Bool.and_true]
    have hload' := hload hc hh
    rw [Line.tend_of_calm hcalm, Line.tendHoldTimer_eq, htimed] at hload'
    exact hload'
  · simp only [Line.drained, Bool.and_eq_true, beq_iff_eq, Option.isNone_iff_eq_none, Bool.not_eq_true'] at hd
    obtain ⟨⟨hh, hshifter⟩, habort⟩ := hd
    have hload' := hload hc hh
    rw [Line.tend_holding (h := h) (l := l.loadConsole (v.extractLsb' 0 8)) hshifter hno habort (Line.underruns_of_phase hphase) rfl] at hload'
    have hraw : ((l.loadConsole (v.extractLsb' 0 8)).framed && h.source == .order) = false := by simp [h]
    rw [hraw, if_neg (by decide), Line.sendCharacter_eq, Line.tendHoldTimer_of_not_inHold (by exact hno)] at hload'
    simp only [hh]
    exact hload'

/-- Settles O26: the head entry leaves where the console is active. -/
theorem consoleReadTakesTheHead : Obligations.ConsoleReadTakesTheHead := by
  unfold Obligations.ConsoleReadTakesTheHead
  intro lanes s hset l
  have hleads : Leads (exec (.conDataRead lanes) s) (s.readRegister lanes .conData) := by
    rw [exec_conDataRead]
    exact leads_command hset rfl
  have hnothing (hword : s.conDataWord = 0) (heffect : s.readEffect .conData = s) :
      Leads (exec (.conDataRead lanes) s) { s with busData := addressedBytes lanes 0 } := by
    have hread : s.readRegister lanes .conData = { s with busData := addressedBytes lanes 0 } := by
      rw [State.readRegister, heffect, State.readWord, hword]
    rwa [hread] at hleads
  cases hq : l.queue with
  | nil =>
    refine hnothing ?_ ?_
    · simp [State.conDataWord, (show (s.line 0).queue = [] from hq)]
    · unfold State.readEffect
      rw [State.onLine_eq, Line.pop_nil hq, State.setLine_self, ite_self]
  | cons e rest =>
    dsimp only
    by_cases hc : s.consoleActive = true
    · have hword : s.conDataWord = 0#24 ++ e.value := by
        rw [State.conDataWord, if_pos hc, (show (s.line 0).queue = e :: rest from hq)]
        exact byte_setWidth_eq_append_zeros _
      have hremnant : (if e.isFrameEnd = true then false else l.remnant) = (l.remnant && !e.isFrameEnd) := by
        cases e.isFrameEnd <;> simp
      rw [if_pos hc, hremnant]
      rw [State.readRegister, State.readWord, hword, State.readEffect, if_pos hc, State.onLine_eq,
        Line.pop_cons hq] at hleads
      exact hleads
    · rw [if_neg hc]
      exact hnothing (if_neg hc) (if_neg hc)

end Sys2Proof.Machine
end

section
/-! Reads with side effects (Table 46), and what comes before a command (log entries 1 and 30). -/

namespace Sys2Proof.Machine

variable {s t u : State} {l : Line} {n : LineNo} {f : State → State}

/-! ### Reads of the window -/

/-- CON_STATUS puts its flags above the head's fields (Table 41). -/
theorem conStatus_append {head : BitVec 8} {low : Word} (h : placed head.toNat 0 = low) (lost drained ready : Bool) :
    0#16 ++ 1#1 ++ 0#4 ++ BitVec.ofBool lost ++ BitVec.ofBool drained ++ BitVec.ofBool ready ++ head =
      low ||| flagAt ready 8 ||| flagAt drained 9 ||| flagAt lost 10 ||| flagAt true 15 := by
  have hone : placed (1#1).toNat 15 = flagAt true 15 := rfl
  rw [eq_placed (_ ++ _)]
  repeat rw [placed_append]
  simp only [placed_zeros, placed_ofBool, h, hone, BitVec.zero_or, BitVec.or_zero, Nat.reduceAdd]
  ac_rfl

/-- The head's own fields (Table 41): the flag RX_READY, then what the kind of entry gives. -/
theorem dataHead_placed (parity framing overrun : Bool) :
    placed (0#1 ++ BitVec.ofBool overrun ++ BitVec.ofBool framing ++ BitVec.ofBool parity ++ 0#1 ++ 0#2 ++ 1#1).toNat 0 =
      flagAt true 0 ||| (flagAt parity 4 ||| flagAt framing 5 ||| flagAt overrun 6) := by
  cases parity <;> cases framing <;> cases overrun <;> rfl

theorem breakHead_placed (overrun : Bool) :
    placed (0#1 ++ BitVec.ofBool overrun ++ 0#2 ++ 0#1 ++ 1#2 ++ 1#1).toNat 0 =
      flagAt true 0 ||| (placed 1 1 ||| flagAt overrun 6) := by
  cases overrun <;> rfl

theorem frameEndHead_placed {code : BitVec 4} {st : FrameStatus} (h : code.toNat = (statusCode st).toNat) :
    placed (code ++ 0#1 ++ 2#2 ++ 1#1).toNat 0 =
      flagAt true 0 ||| (placed 2 1 ||| placed (statusCode st).toNat 4) := by
  have hone : placed (1#1).toNat 0 = flagAt true 0 := rfl
  have htwo : placed (2#2).toNat 1 = placed 2 1 := rfl
  repeat rw [placed_append]
  simp only [placed_zeros, hone, h, Nat.reduceAdd, BitVec.or_zero]
  rw [htwo]
  ac_rfl

/-- Settles O27: the head's fields stand side by side below the flags. -/
theorem conStatusReturnsAndClearsTxLost : Obligations.ConStatusReturnsAndClearsTxLost := by
  unfold Obligations.ConStatusReturnsAndClearsTxLost
  intro lanes s hset code head
  have hcode (st : FrameStatus) : (code st).toNat = (statusCode st).toNat := by cases st <;> rfl
  have hhead : placed head.toNat 0 = flagAt (!(s.line 0).queue.isEmpty) 0 ||| queueHeadWord (s.line 0).queue := by
    dsimp only [head]
    split
    · next hq =>
      rw [hq]
      rfl
    · next hq =>
      rw [hq]
      exact dataHead_placed _ _ _
    · next hq =>
      rw [hq]
      exact breakHead_placed _
    · next hq =>
      rw [hq]
      exact frameEndHead_placed (hcode _)
  have hleads : Leads (exec (.conStatus lanes) s) (s.readRegister lanes .conStatus) := by
    rw [exec_conStatus]
    exact leads_command hset rfl
  refine ⟨fun hc => ?_, fun hc => ?_⟩
  · rw [conStatus_append hhead]
    rw [State.readRegister, State.readWord, State.conStatusWord, if_pos hc, State.readEffect, if_pos hc] at hleads
    exact hleads
  · rw [State.readRegister, State.readWord, State.conStatusWord, State.readEffect, if_neg (by simp [hc]),
      if_neg (by simp [hc])] at hleads
    exact hleads

/-- A record's fields stand side by side (Table 35). -/
theorem recordWord_eq (e : EventRec) (tick more : Bool) : recordWord e tick more =
    BitVec.ofNat 3 (kindBits e.kind) ++ BitVec.ofNat 4 e.line.val ++ BitVec.ofBool tick ++ BitVec.ofBool more ++ e.a ++
      e.b ++ e.c := by
  have hkind : kindBits e.kind < 2 ^ 3 := by cases e.kind <;> decide
  have hline : e.line.val < 2 ^ 4 := e.line.isLt
  rw [eq_placed (_ ++ _)]
  repeat rw [placed_append]
  simp only [placed_ofBool, placed_ofNat hkind, placed_ofNat hline, Nat.reduceAdd, recordWord]

theorem flagAt_tick (b : Bool) : flagAt b 24 = if b then 0x01000000 else 0 := by cases b <;> rfl

/-- Settles O28: by the queue's head, and by whether the queue has overflowed. -/
theorem eventTakeReturnsAndRemovesTheHead : Obligations.EventTakeReturnsAndRemovesTheHead := by
  unfold Obligations.EventTakeReturnsAndRemovesTheHead
  refine ⟨recordWord_eq, fun lanes s hset => ?_, fun s => ⟨rfl, ?_⟩⟩
  · have hleads : Leads (exec (.eventTake lanes) s) (s.readRegister lanes .eventTake) := by
      rw [exec_eventTake]
      exact leads_command hset rfl
    cases hev : s.events with
    | nil =>
      simp only [State.readRegister, State.readEffect, State.readWord, State.headWord, State.takeEvent_nil hev, hev,
        flagAt_tick] at hleads ⊢
      exact hleads
    | cons e rest =>
      dsimp only
      rw [State.readRegister, State.readEffect, State.readWord, State.headWord, State.takeEvent_cons hev] at hleads
      by_cases hover : s.overflow = true
      · rw [if_pos hover, hev] at hleads
        rw [if_pos hover]
        have hmore : (rest ++ [lossEvent s.lost]).isEmpty = false := by simp
        simp only [hmore] at hleads
        exact hleads
      · rw [if_neg hover, hev] at hleads
        rw [if_neg hover]
        exact hleads
  · rw [State.readWord, State.headWord]
    cases hev : s.events with
    | nil => exact flagAt_tick _
    | cons e rest => cases rest <;> rfl

/-- Settles O29: the counts fit their fields where the event port is sound. -/
theorem eventLevelReturnsAndClearsMissed : Obligations.EventLevelReturnsAndClearsMissed := by
  unfold Obligations.EventLevelReturnsAndClearsMissed
  refine ⟨fun lanes s hset => ?_, fun s ⟨hcap, _, _, hlost, hmissed, _, _⟩ => ?_⟩
  · rw [exec_eventLevel]
    exact leads_command hset rfl
  · have hcap' : s.events.length < 2 ^ 6 := Nat.lt_of_le_of_lt hcap (by decide)
    have hlost' : s.lost < 2 ^ 16 := by omega
    have hmissed' : s.missed < 2 ^ 4 := by omega
    rw [eq_placed (_ ++ _)]
    repeat rw [placed_append]
    simp only [placed_zeros, placed_ofBool, placed_ofNat hcap', placed_ofNat hlost', placed_ofNat hmissed',
      BitVec.or_zero, Nat.reduceAdd, State.levelWord]
    simp only [BitVec.or_comm, word_or_left_comm, BitVec.or_assoc]

/-- A flag of the status word above its two fields. -/
theorem State.statusWord_bits (s : State) :
    s.statusWord.getLsbD 16 = s.eventCondition ∧ s.statusWord.getLsbD 17 = s.tick ∧
      s.statusWord.getLsbD 18 = s.conRxReady ∧ s.statusWord.getLsbD 19 = s.conTxReady ∧
      s.statusWord.getLsbD 20 = s.alertLiveness ∧ s.statusWord.getLsbD 24 = s.irq := by
  have hseq (i : Nat) (hi : 16 ≤ i) : (placed (seqBits s.seq) 0).getLsbD i = false :=
    getLsbD_placed_above ((seqBits_lt s.seq).trans_le ((by decide : 8 ≤ 2 ^ 16).trans
      (Nat.pow_le_pow_right (by decide) (by omega))))
  have hpower (i : Nat) (hi : 16 ≤ i) : (placed (powerBits s.power) 4).getLsbD i = false :=
    getLsbD_placed_above ((powerBits_lt s.power).trans_le ((by decide : 8 ≤ 2 ^ 12).trans
      (Nat.pow_le_pow_right (by decide) (by omega))))
  have hbit (i : Nat) (hi : 16 ≤ i) : s.statusWord.getLsbD i =
      ((s.eventCondition && decide (i = 16)) || (s.tick && decide (i = 17)) || (s.conRxReady && decide (i = 18)) ||
        (s.conTxReady && decide (i = 19)) || (s.alertLiveness && decide (i = 20)) || (s.irq && decide (i = 24))) := by
    simp only [State.statusWord, BitVec.getLsbD_or, hseq i hi, hpower i hi, getLsbD_flagAt]
    grind
  refine ⟨?_, ?_, ?_, ?_, ?_, ?_⟩ <;> rw [hbit _ (by decide)] <;> simp

theorem State.controlWord_bits (s : State) :
    s.controlWord.getLsbD 0 = s.eventIe ∧ s.controlWord.getLsbD 1 = s.tickIe ∧ s.controlWord.getLsbD 2 = s.conRxIe ∧
      s.controlWord.getLsbD 3 = s.conTxIe ∧ s.controlWord.getLsbD 4 = s.alertIe := by
  simp only [State.controlWord, BitVec.getLsbD_or, getLsbD_flagAt]
  simp

/-- Settles O30: the word's fields side by side, and its bits one by one. -/
theorem statusReturnsAndClearsTheRefusalFlags : Obligations.StatusReturnsAndClearsTheRefusalFlags := by
  unfold Obligations.StatusReturnsAndClearsTheRefusalFlags
  refine ⟨fun lanes s hset => ?_, fun s => ?_⟩
  · rw [exec_status]
    exact leads_command hset rfl
  intro seq power console
  have hseq (k : Nat) : placed seq.toNat k = placed (seqBits s.seq) k := by
    dsimp only [seq]
    cases s.seq <;> rfl
  have hpower (k : Nat) : placed power.toNat k = placed (powerBits s.power) k := by
    dsimp only [power]
    cases s.power <;> rfl
  have hconsole : console = s.consoleActive := by
    simp only [console, State.consoleActive, State.windowShut]
    cases s.power <;> cases s.seq <;> rfl
  refine ⟨?_, ?_⟩
  · rw [hconsole, eq_placed (_ ++ _)]
    repeat rw [placed_append]
    simp only [placed_zeros, placed_ofBool, hseq, hpower, BitVec.zero_or, BitVec.or_zero, Nat.reduceAdd,
      State.statusWord, State.conTxReady, State.conRxReady]
    simp only [BitVec.or_comm, word_or_left_comm, BitVec.or_assoc]
  · obtain ⟨h16, h17, h18, h19, h20, h24⟩ := s.statusWord_bits
    obtain ⟨h0, h1, h2, h3, h4⟩ := s.controlWord_bits
    rw [h16, h17, h18, h19, h20, h24, h0, h1, h2, h3, h4, State.irq]
    simp only [Bool.or_eq_true, Bool.and_eq_true, or_assoc, and_comm]

/-! ### What comes before a command -/

/-- Nothing is due before a command that finds everything carried out. -/
theorem command_finishInstant (f : State → State) (s : State) : command f s = command f s.finishInstant := by
  rw [command, command, State.finishInstant_settled s.finishInstant_settled_always]

/-- The timers of the guard's part of an instant have acted. -/
theorem State.finishGuard_due (s : State) :
    s.finishGuard.holdsDue = false ∧ s.finishGuard.timeoutDue = false ∧ s.finishGuard.tickDue = false ∧
      s.finishGuard.guardDue = false := by
  obtain ⟨hholds, htimeout⟩ := s.finishVisit_due
  obtain ⟨htick, hholds1, htimeout1⟩ := s.finishVisit.expireTick_due
  obtain ⟨hguard, hholds2, htimeout2, htick2⟩ := s.finishVisit.expireTick.expireGuard_due
  exact ⟨hholds2 (hholds1.trans hholds), htimeout2.trans (htimeout1.trans htimeout), htick2.trans htick, hguard⟩

theorem State.finishGuard_of_due (hholds : s.holdsDue = false) (htimeout : s.timeoutDue = false)
    (htick : s.tickDue = false) (hguard : s.guardDue = false) : s.finishGuard = s := by
  simp [State.finishGuard, State.finishVisit, State.expireHolds, State.expireTimeout, State.expireTick,
    State.expireGuard, hholds, htimeout, htick, hguard]

theorem State.finishGuard_finishGuard (s : State) : s.finishGuard.finishGuard = s.finishGuard := by
  obtain ⟨h1, h2, h3, h4⟩ := s.finishGuard_due
  exact State.finishGuard_of_due h1 h2 h3 h4

theorem State.finishGuard_finishInstant (s : State) : s.finishGuard.finishInstant = s.finishInstant := by
  rw [State.finishInstant, State.finishTimers, State.finishGuard_finishGuard]
  rfl

/-- Once the instant is over, what a line needs is what it needed. -/
theorem State.neededService_of_settled (h : s.settled = true) (n : LineNo) :
    (s.line n).neededService = (s.line n).needsService := by
  have hnone : (s.line n).countBefore = none := by
    simp only [State.settled, Bool.and_eq_true, Bool.not_eq_true'] at h
    have hopen := h.2
    simp only [State.countsOpen, List.any_eq_false, List.mem_finRange, forall_const] at hopen
    simpa using hopen n
  unfold Line.neededService
  rw [(Line.before_of_none hnone).2.2]

theorem State.watchIdle_of_settled (h : s.settled = true) : s.watchIdle = s := by
  simp only [State.settled, Bool.and_eq_true, Bool.or_eq_true, beq_iff_eq] at h
  rw [State.watchIdle_eq]
  rcases h.1.1.2 with hw | hw
  · rw [hw]
    rfl
  · rw [hw, ite_self, ← hw]

/-- VISIT on a state of which everything has been carried out chooses there. -/
theorem visitNow_settled (h : s.settled = true) : visitNow s = nextVisit s := by
  have hline : s.firstLine Line.neededService = s.chooseLine := by
    unfold State.chooseLine State.firstLine
    simp only [State.neededService_of_settled h]
  unfold visitNow nextVisit
  rw [hline, State.finishInstant_settled h, State.watchIdle_of_settled h]
  cases s.chooseLine <;> cases s.mayVisit <;> rfl

theorem State.outlasts_iff {tag : Nat} :
    s.outlasts tag = true ↔ s.visit.isSome = true ∧ ∃ t, s.mem = some t ∧ t.tag = tag ∧ t.beats ≠ 0 := by
  unfold State.outlasts State.awaited
  cases s.visit <;> cases s.mem with
  | none => simp
  | some x =>
    by_cases hx : x.tag = tag <;> simp [hx]

/-- Settles O3: what is due acts first, and the answers and VISIT in their own order. -/
theorem dueEventsComeFirst : Obligations.DueEventsComeFirst := by
  unfold Obligations.DueEventsComeFirst
  refine ⟨State.finishInstant_settled_always, fun c s hc => ?_, fun tag s => ?_, fun s => ?_⟩
  · cases c with
    | timeout | tick | resweepExpiry | holdDue | guardExpiry | automaticDoze | standby | pinReset | visit | wordRead
    | wordWrite | byteWrite | byteRead => exact absurd hc (by simp [Instr.isExpiry])
    | _ =>
      simp only [exec_start, exec_stop, exec_pause, exec_resume, exec_hostReset, exec_cancelRx, exec_cancelTx,
        exec_resetLine, exec_doorbell, exec_reqActive, exec_reqDoze, exec_reqStandby, exec_control, exec_keepalive,
        exec_livenessPeriod, exec_tableBase, exec_lineSetting, exec_lineFrame, exec_customDivisor, exec_cadence,
        exec_resweep, exec_coalesce, exec_classDataWrite, exec_classDataRead, exec_conDataWrite, exec_conDataRead,
        exec_conStatus, exec_eventTake, exec_eventLevel, exec_status, exec_registerWrite, exec_completion,
        exec_breakSeen, exec_recoverEnd, exec_shifterEmpty, exec_breakDone, exec_idleDue, exec_fallingEdge,
        exec_startBitSample, exec_beatBoundary, exec_wakeEdge, exec_wakingEnd]
      rw [command_finishInstant]
  · refine ⟨fun h => ?_, fun h => ?_, fun a => ?_, fun a => ?_, fun a => ?_, fun a => ?_⟩
    · rw [State.beforeAnswer, if_pos (State.outlasts_iff.2 h)]
    · rw [State.beforeAnswer, if_neg fun h' => h (State.outlasts_iff.1 h')]
    · rw [exec_wordRead, answered]
    · rw [exec_wordWrite, answered]
    · rw [exec_byteWrite, answered]
    · rw [exec_byteRead, answered]
  · intro u
    have hvisit (w : State) : exec .visit w = .next (visitNow w.finishGuard).watchIdle := by rw [exec_visit, expiry]
    refine ⟨by rw [hvisit, hvisit, State.finishGuard_finishGuard], fun hnone => ?_⟩
    have hfirst : u.firstLine Line.neededService = none ∨ u.mayVisit = false := by
      rcases hnone with h | h | h | h
      · exact .inr (by simp [State.mayVisit, h])
      · exact .inr (by simp [State.mayVisit, h])
      · exact .inr (by simp [State.mayVisit, ← Option.not_isSome, h])
      · exact .inl (by simp [State.firstLine, List.find?_eq_none, h])
    rw [hvisit, hvisit, State.finishGuard_settled s.finishInstant_settled_always,
      visitNow_settled s.finishInstant_settled_always, visitNow_of_none hfirst, State.finishGuard_finishInstant]

end Sys2Proof.Machine
end

section
/-! What falls due at a beat boundary, said by each expiry (R136, R137, R41, R158 to R163, R166, R167). -/

namespace Sys2Proof.Machine

variable {s t u : State} {l : Line} {n : LineNo} {f : State → State}

/-! ### The cadence and the resweep -/

theorem State.tickDue_iff : s.tickDue = true ↔ s.cadence ≠ 0 ∧ s.cadence.toNat ≤ s.cadenceCount := by
  simp [State.tickDue]

theorem State.resweepDue_iff : s.resweepDue = true ↔ s.resweep ≠ 0 ∧ s.resweep.toNat ≤ s.resweepCount := by
  simp [State.resweepDue]

/-- Settles O57: by whether each count has come to its end. -/
theorem cadenceTicksAndResweepsRestart : Obligations.CadenceTicksAndResweepsRestart := by
  unfold Obligations.CadenceTicksAndResweepsRestart
  intro s
  refine ⟨?_, fun hdue => ?_, fun hnot => ?_⟩
  · rw [exec_tick]
    refine leads_expiry ?_
    simp only [State.expireTick, State.tickDue_iff]
  · have hr := State.resweepDue_iff.2 hdue
    refine ⟨s.expireResweep.watchIdle, by rw [exec_resweepExpiry, expiry], ?_, fun n => ?_⟩
    · have hexp : s.expireResweep = { s with lines := s.expireResweep.lines, resweepCount := 0 } := by
        conv_lhs => rw [State.expireResweep_eq, if_pos hr]
      have hlines : s.expireResweep.watchIdle.lines = s.expireResweep.lines := by rw [State.watchIdle_eq]
      rw [hlines, ← hexp]
      exact s.expireResweep.watchIdle_agrees
    · have hline : s.expireResweep.watchIdle.line n = s.expireResweep.line n := by rw [State.watchIdle_eq]; rfl
      rw [hline, State.expireResweep_line, if_pos hr]
      rfl
  · have hr : s.resweepDue = false := by
      rw [← Bool.not_eq_true, State.resweepDue_iff]
      rintro ⟨h0, hle⟩
      rcases hnot with h | h
      · exact h0 h
      · exact absurd hle (by omega)
    rw [exec_resweepExpiry]
    exact leads_expiry (by simp [State.expireResweep, hr])

/-! ### Late answers -/

/-- Nothing awaits an answer that does not carry the number of the outstanding transaction. -/
theorem State.awaited_of_tag {tag : Nat} (h : ∀ t, s.mem = some t → t.tag ≠ tag) : s.awaited tag = none := by
  unfold State.awaited
  split
  · next hm => rw [if_neg (h _ hm)]
  · rfl

/-- Settles O47: no visit awaits such an answer, and no timeout is due. -/
theorem lateAnswersAreDiscarded : Obligations.LateAnswersAreDiscarded := by
  unfold Obligations.LateAnswersAreDiscarded
  intro s tag hset hlate
  have hnone := State.awaited_of_tag hlate
  have hbefore : s.beforeAnswer tag = s := by
    rw [State.beforeAnswer, State.outlasts, hnone]
    exact State.finishInstant_settled hset
  have hanswer {f : State → State} (hf : f s = s) : Leads (answered tag f s) s := by
    refine ⟨_, rfl, ?_⟩
    rw [hbefore, hf]
    exact s.watchIdle_agrees
  refine ⟨fun a => ?_, fun a => ?_, fun a => ?_, fun a => ?_, ?_⟩
  · rw [exec_wordRead]
    exact hanswer (by rw [answerWordRead, hnone])
  · rw [exec_wordWrite]
    exact hanswer (by rw [answerWordWrite, hnone])
  · rw [exec_byteWrite]
    exact hanswer (by rw [answerByteWrite, hnone])
  · rw [exec_byteRead]
    exact hanswer (by rw [answerByteRead, hnone])
  · rw [exec_timeout]
    refine leads_expiry ?_
    have hdue := State.finishInstant_settled hset
    simp only [State.settled, Bool.and_eq_true, Bool.not_eq_true'] at hset
    obtain ⟨⟨⟨⟨⟨⟨⟨⟨⟨hholds, htimeout⟩, -⟩, -⟩, -⟩, -⟩, -⟩, -⟩, -⟩, -⟩ := hset
    simp [State.finishVisit, State.expireHolds, State.expireTimeout, hholds, htimeout]

/-! ### The guard -/

/-- An event joins the queue, or is counted lost (R132, R134). -/
theorem State.offer_cases (s : State) (e : EventRec) : s.offer e =
    if s.events.length < 32 then { s with events := s.events ++ [e] }
    else { s with overflow := true, lost := min 65535 (s.lost + 1) } := rfl

/-- The transmitter of a quiesced line: nothing is held, so that its hold timer stands at 0 (R167). -/
theorem Line.quiesce_eq (l : Line) : l.quiesce =
    { l with
      holding := none
      ownByte := false
      abortPending := false
      txPhase := if l.shifter = .empty then .idle else l.txPhase
      holdCount := 0
      holdStopped := false } := by
  simp [Line.quiesce, Line.tendHoldTimer_eq, Line.holdTimed]

/-- The entry into QUIESCED abandons a standby entry and changes every line (R160, R167). -/
theorem State.enterQuiesced_eq (s : State) : s.enterQuiesced =
    { s with
      seq := .quiesced
      power := if s.power = .standbyEntry then .active else s.power
      req := if s.power = .standbyEntry then .active else s.req
      lines := s.enterQuiesced.lines } := by
  unfold State.enterQuiesced State.onLines
  rw [State.moveSeq_eq]
  simp

/-- An entry into QUIESCED leaves the part in ACTIVE, whether a doze ended or a standby entry was abandoned. -/
theorem State.endDoze_enterQuiesced (h : s.windowShut = false) : s.endDoze.enterQuiesced =
    { s with
      seq := .quiesced
      power := .active
      req := if s.power = .active then s.req else .active
      idleBeats := if s.power = .doze then 0 else s.idleBeats
      lines := s.endDoze.enterQuiesced.lines } := by
  rw [State.enterQuiesced_eq]
  have hpower : s.endDoze.power = .active ∧ s.endDoze.req = (if s.power = .active then s.req else .active) ∨
      s.endDoze.power = .standbyEntry ∧ s.power = .standbyEntry := by
    unfold State.windowShut at h
    unfold State.endDoze
    cases hp : s.power <;> simp [hp] at h ⊢
  rcases hpower with ⟨hp, hr⟩ | ⟨hp, hs⟩
  · rw [hp, hr, if_neg (by decide), if_neg (by decide), State.endDoze_eq]
  · rw [hp, if_pos rfl, if_pos rfl, hs, if_neg (by decide), if_neg (by decide),
      State.endDoze_of_ne (by rw [hs]; decide)]

/-- Where neither a hold limit nor the timeout is due, the guard's expiry comes first. -/
theorem State.finishVisit_of_due (hholds : s.holdsDue = false) (htimeout : s.timeoutDue = false) : s.finishVisit = s := by
  simp [State.finishVisit, State.expireHolds, State.expireTimeout, hholds, htimeout]

/-- Settles O58: with a visit in progress the sequencer moves only; otherwise every line is quiesced. -/
theorem guardExpiryQuiescesThePart : Obligations.GuardExpiryQuiescesThePart := by
  unfold Obligations.GuardExpiryQuiescesThePart
  intro s hholds htimeout hshut
  have hfinish := State.finishVisit_of_due hholds htimeout
  refine ⟨fun hdue => ?_, fun hdue => ?_⟩
  · rw [exec_guardExpiry]
    exact leads_expiry (by simp [hfinish, State.expireGuard, hdue])
  intro e told
  have hexec : exec .guardExpiry s = .next s.guardExpires.watchIdle := by
    rw [exec_guardExpiry, expiry, hfinish, State.expireGuard, if_pos hdue]
  have hoffer : { s with alertLiveness := true, guardRunning := false }.offer livenessEvent =
      { told with alertLiveness := true, guardRunning := false } := by
    rw [State.offer_cases]
    dsimp only [told]
    split <;> rfl
  have hpower : told.power = s.power := by dsimp only [told]; split <;> rfl
  have hreq : told.req = s.req := by dsimp only [told]; split <;> rfl
  have hvisit : told.visit = s.visit := by dsimp only [told]; split <;> rfl
  have hguard : s.guardExpires =
      State.quiesceSeq { told with alertLiveness := true, guardRunning := false }.endDoze := by
    rw [← hoffer]
    rfl
  clear_value told
  refine ⟨fun v hv hactive => ?_, fun hv => ?_⟩
  · refine ⟨_, hexec, ?_⟩
    have hquiet : s.guardExpires =
        { told with alertLiveness := true, guardRunning := false, seq := .quiescing } := by
      rw [hguard, State.endDoze_of_ne (by simp [hpower, hactive]), State.quiesceSeq, hvisit, hv]
      have hentry : told.power ≠ .standbyEntry := by simp [hpower, hactive]
      simp [State.moveSeq, hentry]
    rw [hquiet]
    exact State.watchIdle_agrees _
  · have hquiet : s.guardExpires =
        { told with alertLiveness := true, guardRunning := false }.endDoze.enterQuiesced := by
      rw [hguard, State.quiesceSeq, State.endDoze_visit, hvisit, hv]
      rfl
    refine ⟨_, hexec, ?_, fun n => ?_⟩
    · have hlines : s.guardExpires.watchIdle.lines = s.guardExpires.lines := by rw [State.watchIdle_eq]
      have hopen : told.windowShut = false := by rw [State.windowShut, hpower]; exact hshut
      rw [hlines, hquiet, State.endDoze_enterQuiesced (by exact hopen), ← hpower, ← hreq]
      exact State.watchIdle_agrees_of _ rfl (by dsimp only; split <;> simp)
    · have hline : s.guardExpires.watchIdle.line n = s.guardExpires.line n := by rw [State.watchIdle_eq]; rfl
      rw [hline, State.guardExpires_line, hv, ← Line.quiesce_eq]
      rfl

/-! ### The power states -/

/-- Where no timer is due, the timers change nothing. -/
theorem State.finishTimers_of_timersSettled (h : s.timersSettled = true) : s.finishTimers = s := by
  simp only [State.timersSettled, Bool.and_eq_true, Bool.not_eq_true'] at h
  obtain ⟨⟨⟨⟨hholds, htimeout⟩, htick⟩, hresweep⟩, hguard⟩ := h
  rw [State.finishTimers, State.finishGuard_of_due hholds htimeout htick hguard, State.expireResweep, hresweep]
  rfl

theorem State.autoDozeDue_iff : s.autoDozeDue = true ↔
    s.autoDoze = true ∧ s.power = .active ∧ s.seq = .running ∧ s.idleCondition = true ∧ 2 ≤ s.idleBeats ∧
      s.visit = none ∧ s.anyTxActive = false := by
  simp only [State.autoDozeDue, State.watchedIdle, State.mayDoze, Bool.and_eq_true, beq_iff_eq, decide_eq_true_eq,
    Option.isNone_iff_eq_none, Bool.not_eq_true']
  tauto

/-- What an entry into STANDBY leaves of a line whose transmitter is drained (R161): a receiver in START or ASSEMBLE
searches, and its loopback input is at mark. -/
theorem Line.freeze_of_drained (h : l.drained = true) : l.freeze =
    if l.receiver.phase = .start ∨ l.receiver.phase = .assemble then
      { l with receiver := { l.receiver with phase := .search, clocks := 0, before := true, samples := [] } }
    else l := by
  have hlevel : l.loopLevel = true := by
    rw [Line.loopLevel, Line.shifter_of_drained h]
    rfl
  rw [Line.freeze, Line.enterSearch, hlevel]

/-- Settles O59: each power state is entered by the last clause of the instant that may enter it. -/
theorem dozeAndStandbyAreEnteredWhenDue : Obligations.DozeAndStandbyAreEnteredWhenDue := by
  unfold Obligations.DozeAndStandbyAreEnteredWhenDue
  intro s htimers
  have hfinish := State.finishTimers_of_timersSettled htimers
  refine ⟨?_, fun hpower hdrained hmem => ?_, fun hset => ?_⟩
  · rw [exec_automaticDoze]
    split
    · next h =>
      have hdue := State.autoDozeDue_iff.2 h
      refine leads_expiry_of 0 ?_ (.inr rfl)
      rw [hfinish, State.enterAutoDoze, if_pos hdue, State.enterDoze_eq]
    · next h =>
      refine leads_expiry ?_
      rw [hfinish, State.enterAutoDoze, if_neg fun hdue => h (State.autoDozeDue_iff.1 hdue)]
  · have hauto : s.enterAutoDoze = s := by
      rw [State.enterAutoDoze, if_neg fun hdue => ?_]
      have hactive := (State.autoDozeDue_iff.1 hdue).2.1
      exact absurd (hpower.symm.trans hactive) (by decide)
    have hdue : s.standbyDue = true := by simp [State.standbyDue, hpower, hdrained, hmem]
    have hinstant : s.finishInstant = s.enterStandby.endInstant := by rw [State.finishInstant, hfinish, hauto]
    have henter : s.enterStandby =
        { s.onLines fun _ l => l.freeze with
          power := .standby
          wakeEn := s.lineMask fun l => setWakeEn l.setting
          wakeLoop := s.lineMask fun l => setLoop l.setting
          wakeStart := 0
          wakeSense := 0 } := if_pos hdue
    have hwatch : s.finishInstant.watchIdle = s.finishInstant := State.watchIdle_of_settled s.finishInstant_settled_always
    refine ⟨s.finishInstant, by rw [exec_standby, expiry, hwatch], ?_, fun n => ?_⟩
    · rw [hinstant, State.endInstant_eq, henter]
      exact ⟨rfl, ite_eq_or_eq _ _ _⟩
    · have hn : (s.line n).drained = true := by
        simp only [State.allDrained, List.all_eq_true] at hdrained
        exact hdrained n (List.mem_finRange n)
      refine ⟨?_, ?_, ?_⟩
      · rw [hinstant, State.endInstant_eq, henter]
        simp [State.lineMask]
      · rw [hinstant, State.endInstant_eq, henter]
        simp [State.lineMask]
      · rw [hinstant, State.endInstant_line, State.enterStandby_line, if_pos hdue, Line.freeze_of_drained hn]
        split <;> rfl
  · rw [exec_standby]
    exact leads_expiry (State.finishInstant_settled hset)

/-! ### Waking -/

/-- Events offered one after the other join while there is room, and the others are counted lost (R132 to R134). -/
theorem State.offers_eq (es : List EventRec) (s : State) (hcap : s.events.length ≤ 32) (hlost : s.lost ≤ 65535) :
    es.foldl State.offer s =
      { s with
        events := s.events ++ es.take (32 - s.events.length)
        overflow := s.overflow || decide (32 < s.events.length + es.length)
        lost := min 65535 (s.lost + (s.events.length + es.length - 32)) } := by
  induction es generalizing s with
  | nil =>
    have hnot : ¬32 < s.events.length := by omega
    have hsum : min 65535 (s.lost + (s.events.length - 32)) = s.lost := by omega
    simp [hnot, hsum]
  | cons e es ih =>
    rw [List.foldl_cons, State.offer_cases]
    by_cases hroom : s.events.length < 32
    · rw [if_pos hroom]
      refine (ih { s with events := s.events ++ [e] } (by rw [List.length_append]; exact hroom) hlost).trans ?_
      have htake : 32 - s.events.length = (32 - (s.events.length + 1)) + 1 := by omega
      simp only [List.length_append, List.length_cons, List.length_nil, htake, List.take_succ_cons,
        List.append_assoc, List.cons_append, List.nil_append]
      have hlen : s.events.length + (0 + 1) + es.length = s.events.length + (es.length + 1) := by omega
      rw [hlen]
    · rw [if_neg hroom]
      refine (ih { s with overflow := true, lost := min 65535 (s.lost + 1) } hcap (Nat.min_le_left _ _)).trans ?_
      have hfull : s.events.length = 32 := by omega
      have hover : (s.overflow || decide (32 < s.events.length + (e :: es).length)) = true := by simp [hfull]
      have hsum : min 65535 (min 65535 (s.lost + 1) + (s.events.length + es.length - 32)) =
          min 65535 (s.lost + (s.events.length + (e :: es).length - 32)) := by
        rw [List.length_cons]
        omega
      rw [hover]
      dsimp only
      rw [hsum, hfull]
      simp

/-- The WAKE events are those of the lines whose edges woke the part (R163). -/
theorem State.offerWake_foldl (ns : List LineNo) (s : State) (starts senses : BitVec 16) (hstart : s.wakeStart = starts)
    (hsense : s.wakeSense = senses) :
    ns.foldl State.offerWake s =
      ((ns.filter fun n => starts.getLsbD n.val || senses.getLsbD n.val).map fun n =>
        wakeEvent n (starts.getLsbD n.val) (senses.getLsbD n.val)).foldl State.offer s := by
  induction ns generalizing s with
  | nil => rfl
  | cons n ns ih =>
    have hstart' : (s.offerWake n).wakeStart = starts := by
      rw [← hstart, State.offerWake]
      split
      · rw [State.offer_eq]
      · rfl
    have hsense' : (s.offerWake n).wakeSense = senses := by
      rw [← hsense, State.offerWake]
      split
      · rw [State.offer_eq]
      · rfl
    rw [List.foldl_cons, ih _ hstart' hsense', List.filter_cons, State.offerWake, hstart, hsense]
    split
    · rw [List.map_cons, List.foldl_cons]
    · rfl

/-- The record of a WAKE event (Table 37). -/
theorem wakeEvent_eq (n : LineNo) (start sense : Bool) : wakeEvent n start sense =
    { kind := .wake, line := n, a := 0#5 ++ BitVec.ofBool sense ++ BitVec.ofBool start, b := 0, c := 0, age := 0 } := by
  cases start <;> cases sense <;> rfl

/-- An edge on an armed line (R162). -/
theorem armedEdges_ne_zero {starts senses armed : BitVec 16} : (starts ||| senses) &&& armed ≠ 0 ↔
    ∃ n : LineNo, armed.getLsbD n.val = true ∧ (starts.getLsbD n.val = true ∨ senses.getLsbD n.val = true) := by
  constructor
  · intro hne
    by_contra hnone
    apply hne
    refine BitVec.eq_of_getLsbD_eq fun i hi => ?_
    have hi' := mt (fun h => (⟨⟨i, hi⟩, h⟩ : ∃ n : LineNo, armed.getLsbD n.val = true ∧
      (starts.getLsbD n.val = true ∨ senses.getLsbD n.val = true))) hnone
    simp only [BitVec.getLsbD_and, BitVec.getLsbD_or]
    grind
  · rintro ⟨n, harmed, hedge⟩ h0
    have hbit := congrArg (fun w => BitVec.getLsbD w n.val) h0
    simp only [BitVec.getLsbD_and, BitVec.getLsbD_or, harmed] at hbit
    grind

/-- Settles O60: STANDBY watches the armed lines, and WAKING ends for all lines at once. -/
theorem wakeEdgesWakeAndWakingEnds : Obligations.WakeEdgesWakeAndWakingEnds := by
  unfold Obligations.WakeEdgesWakeAndWakingEnds
  refine ⟨fun starts senses s hset => ?_, fun s hset => ⟨fun hp => ?_, fun hp hheld => ?_, fun hp hheld hport => ?_⟩⟩
  · intro armed
    refine ⟨fun hp hedge => ?_, fun hno => ?_⟩
    · rw [exec_wakeEdge]
      exact leads_command hset (if_pos ⟨hp, armedEdges_ne_zero.2 hedge⟩)
    · rw [exec_wakeEdge]
      refine leads_command hset (if_neg fun hedge => ?_)
      obtain ⟨n, harmed, hbits⟩ := armedEdges_ne_zero.1 hedge.2
      rcases hno with hne | hno
      · exact hne hedge.1
      · obtain ⟨hstart, hsense⟩ := hno n harmed
        rw [hstart, hsense] at hbits
        simp at hbits
  · rw [exec_wakingEnd]
    exact leads_command hset (if_neg hp)
  · rw [exec_wakingEnd]
    refine leads_command hset ?_
    rw [State.wakingEnds, if_pos hp, if_pos hheld]
  · refine ⟨s.wake.watchIdle, ?_, ?_⟩
    · rw [exec_wakingEnd, command_settled hset, State.wakingEnds, if_pos hp, if_neg (by simp [hheld])]
    intro woke report
    obtain ⟨hcap, _, _, hlost, _⟩ := hport
    have hwake : s.wake =
        { s with
          power := .active
          req := .active
          beatClocks := 0
          settleClocks := 0
          lines := (s.onLines fun _ l => l.wake).lines
          events := s.events ++ (woke.map report).take (32 - s.events.length)
          overflow := s.overflow || decide (32 < s.events.length + woke.length)
          lost := min 65535 (s.lost + (s.events.length + woke.length - 32)) } := by
      have hmap : (woke.map fun n => wakeEvent n (s.wakeStart.getLsbD n.val) (s.wakeSense.getLsbD n.val)) =
          woke.map report := List.map_congr_left fun n _ => wakeEvent_eq n _ _
      obtain ⟨u, hu⟩ : ∃ u : State, u = { s.onLines fun _ l => l.wake with
          power := .active, req := .active, beatClocks := 0, settleClocks := 0 } := ⟨_, rfl⟩
      have hev : u.events = s.events := by rw [hu]; rfl
      have hlost' : u.lost = s.lost := by rw [hu]; rfl
      have hover : u.overflow = s.overflow := by rw [hu]; rfl
      have hoffers := (State.offerWake_foldl (List.finRange 16) u s.wakeStart s.wakeSense (by rw [hu]; rfl)
        (by rw [hu]; rfl)).trans (State.offers_eq _ u (by rw [hev]; exact hcap) (by rw [hlost']; exact hlost))
      rw [State.wake, ← hu, State.offerWakes, hoffers, hmap, List.length_map, hev, hlost', hover, hu]
      rfl
    have hline (n : LineNo) : s.wake.line n = (s.line n).wake := by
      rw [hwake]
      exact State.line_onLines s n _
    rw [State.watchIdle_eq, hwake]
    refine ⟨⟨rfl, ?_⟩, by simp, rfl, fun n => ?_⟩
    · dsimp only
      split <;> simp
    · change (s.onLines fun _ l => l.wake).line n = _
      rw [State.line_onLines, Line.wake, Line.listens]
      cases (s.line n).sensePrev <;> rfl

end Sys2Proof.Machine
end

section
/-! The framed receive machine (R112 to R116): one step by its state and the character, and a whole frame. -/

namespace Sys2Proof.Machine

variable {l : Line} {v : Byte}

/-! ### One character -/

theorem Line.receiveFramed_error {parity framing : Bool} (h : parity = true ∨ framing = true) :
    l.receiveFramed (.char v parity framing) = l.frameErrorSeen (if framing then .framing else .parity) := by
  cases framing
  · simp only [Bool.false_eq_true, or_false] at h
    simp [Line.receiveFramed, h]
  · simp [Line.receiveFramed]

theorem Line.receiveFramed_mark : l.receiveFramed (.char l.markChar false false) = l.frameMarkSeen := by
  simp [Line.receiveFramed]

theorem Line.receiveFramed_escape (h : l.escapeChar ≠ l.markChar) :
    l.receiveFramed (.char l.escapeChar false false) = l.frameEscapeSeen := by
  simp [Line.receiveFramed, h]

theorem Line.receiveFramed_plain (hmark : v ≠ l.markChar) (hesc : v ≠ l.escapeChar) :
    l.receiveFramed (.char v false false) = l.frameByteSeen v := by
  simp [Line.receiveFramed, hmark, hesc]

/-- While the machine hunts or discards, everything but a MARK is ignored (Table 29). -/
theorem Line.receiveFramed_ignored (hclosed : l.frameRx = .hunt ∨ ∃ st, l.frameRx = .discard st)
    (hv : v ≠ l.markChar) : l.receiveFramed (.char v false false) = l := by
  by_cases hesc : v = l.escapeChar
  · subst hesc
    rw [Line.receiveFramed_escape hv, Line.frameEscapeSeen]
    rcases hclosed with h | ⟨st, h⟩ <;> rw [h]
  · rw [Line.receiveFramed_plain hv hesc, Line.frameByteSeen]
    rcases hclosed with h | ⟨st, h⟩ <;> rw [h]

theorem Line.frameErrorSeen_ignored {st : FrameStatus} (hclosed : l.frameRx = .hunt ∨ ∃ st, l.frameRx = .discard st) :
    l.frameErrorSeen st = l := by
  rw [Line.frameErrorSeen]
  rcases hclosed with h | ⟨st, h⟩ <;> rw [h]

theorem Line.frameErrorSeen_open {st : FrameStatus} (hopen : l.frameRx = .collect ∨ l.frameRx = .escaped) :
    l.frameErrorSeen st = l.poison st := by
  rw [Line.frameErrorSeen]
  rcases hopen with h | h <;> rw [h]

/-- The end of a frame, with room in the queue and without (R116). -/
theorem Line.endFrame_eq (l : Line) (st : FrameStatus) : l.endFrame st =
    if l.queue.length < 8 then
      { l with
        frameRx := .collect, tail := [], frameBytes := 0, rxCrc := 0xFFFF
        queue := l.queue ++ [.frameEnd st]
        pacing := pacingAfter l.pacing (l.queue.length + 1) }
    else
      { l with
        frameRx := .collect, tail := [], frameBytes := 0, rxCrc := 0xFFFF
        framesDropped := min 255 (l.framesDropped + 1) } := by
  unfold Line.endFrame
  split
  · next h =>
    rw [Line.joinFrameEnd_room st h]
    simp [Line.beginFrame, Line.join]
  · next h =>
    rw [Line.joinFrameEnd_full st (by omega)]
    rfl

/-- A byte of an open frame with the tail pair full (R114, R116). -/
theorem Line.addFrameByte_pair {older newer b : Byte} (h : l.tail = [older, newer]) : l.addFrameByte b =
    if l.queue.length ≤ 6 then
      { l with
        frameRx := .collect
        frameBytes := min 3 (l.frameBytes + 1)
        queue := l.queue ++ [.data older false false false 0]
        pacing := pacingAfter l.pacing (l.queue.length + 1)
        rxCrc := crcByte l.rxCrc older
        tail := [newer, b] }
    else l.poison .overrun := by
  split
  · next hq =>
    rw [Line.addFrameByte_full h hq]
    rfl
  · next hq =>
    have hroom : ¬l.queue.length ≤ Config.framedDataLimit := hq
    simp only [Line.addFrameByte, h, if_neg hroom]

/-- Settles O52: by the machine's state, then by the character (Table 29). -/
theorem errorsPoisonAnOpenFrame : Obligations.ErrorsPoisonAnOpenFrame := by
  unfold Obligations.ErrorsPoisonAnOpenFrame
  intro l v parity framing hne opened mark esc plain begun ended poisoned
  have hopen (h : opened = true) : l.frameRx = .collect ∨ l.frameRx = .escaped := by simpa [opened] using h
  have hmark : mark = l.frameMarkSeen := Line.receiveFramed_mark
  have hesc : esc = l.frameEscapeSeen := Line.receiveFramed_escape hne
  have hended (st : FrameStatus) : l.endFrame st = ended st := Line.endFrame_eq l st
  clear_value mark esc ended
  subst hmark hesc
  refine ⟨fun h herr => ?_, fun h => ?_, fun h => ⟨?_, ?_⟩, fun h => ⟨?_, fun h0 => ?_, fun h12 => ?_, ?_⟩,
    fun st h => ⟨?_, ?_, ?_, ?_, ?_⟩, fun h => ⟨?_, ?_, ?_, ?_⟩, fun h hm he => ?_⟩
  · rw [Line.receiveFramed_error herr]
    exact Line.frameErrorSeen_open (hopen h)
  · exact Line.frameErrorSeen_open (hopen h)
  · rw [Line.frameEscapeSeen, h]
    rfl
  · rw [Line.frameMarkSeen, h, ← hended]
  · rw [Line.frameEscapeSeen, h]
  · rw [Line.frameMarkSeen, h]
    exact if_pos h0
  · rw [Line.frameMarkSeen, h, ← hended]
    dsimp only
    rw [if_neg (by omega), if_pos (by omega)]
  · intro older newer h3 htail
    rw [Line.frameMarkSeen, h, ← hended]
    dsimp only
    rw [if_neg (by omega), if_neg (by omega), Line.checkFrame, htail]
  · rw [Line.frameMarkSeen, h, ← hended]
  · rw [Line.frameEscapeSeen, h]
  · exact Line.receiveFramed_ignored (.inr ⟨st, h⟩)
  · intro herr
    rw [Line.receiveFramed_error herr]
    exact Line.frameErrorSeen_ignored (.inr ⟨st, h⟩)
  · exact Line.frameErrorSeen_ignored (.inr ⟨st, h⟩)
  · rw [Line.frameMarkSeen, h]
    rfl
  · exact Line.receiveFramed_ignored (.inl h)
  · intro herr
    rw [Line.receiveFramed_error herr]
    exact Line.frameErrorSeen_ignored (.inl h)
  · exact Line.frameErrorSeen_ignored (.inl h)
  · intro b counted
    have hplain : plain = l.addFrameByte b := by
      change l.receiveFramed (.char v false false) = _
      rw [Line.receiveFramed_plain hm he, Line.frameByteSeen]
      dsimp only [b]
      rcases hopen h with h | h <;> simp [h]
    clear_value b
    refine ⟨fun htail => ?_, fun older htail => ?_, fun older newer htail => ?_⟩
    · rw [hplain, Line.addFrameByte_tail (by simp [htail]), htail]
      rfl
    · rw [hplain, Line.addFrameByte_tail (by simp [htail]), htail]
      rfl
    · rw [hplain, Line.addFrameByte_pair htail]
      rfl

/-! ### A whole frame -/

/-- The DATA entry of a payload byte. -/
def dataEntry (b : Byte) : Entry := .data b false false false 0

/-- The machine has collected the bytes `bs` of a frame on the line `l0` whose queue was empty: all but the last two
have joined the queue, and the last two stand in the tail pair (R114). -/
def Line.Collected (l0 : Line) (bs : List Byte) (l : Line) : Prop :=
  l.markChar = l0.markChar ∧ l.escapeChar = l0.escapeChar ∧ l.framesDropped = l0.framesDropped ∧
    l.frameRx = .collect ∧ l.frameBytes = min 3 bs.length ∧ l.tail.length = min 2 bs.length ∧
    ∃ joined, bs = joined ++ l.tail ∧ l.queue = joined.map dataEntry ∧ l.rxCrc = crcOf joined

/-- The state of the machine does not change what a byte of an open frame does. -/
theorem Line.addFrameByte_frameRx (l : Line) (b : Byte) (r : FrameRx) :
    ({ l with frameRx := r } : Line).addFrameByte b = l.addFrameByte b := by
  match htail : l.tail with
  | [] | [_] | _ :: _ :: _ => simp only [Line.addFrameByte, htail, Line.join, Line.poison]

theorem Line.collected_addFrameByte {l0 : Line} {bs : List Byte} {b : Byte} (h : Line.Collected l0 bs l)
    (hroom : bs.length ≤ 8) : Line.Collected l0 (bs ++ [b]) (l.addFrameByte b) := by
  obtain ⟨hmark, hesc, hdrop, hrx, hcount, htail, joined, hbs, hqueue, hcrc⟩ := h
  have hlen : bs.length = joined.length + l.tail.length := by
    conv_lhs => rw [hbs, List.length_append]
  have hcount' : min 3 (l.frameBytes + 1) = min 3 (bs ++ [b]).length := by
    rw [hcount, List.length_append, List.length_singleton]
    omega
  by_cases hshort : l.tail.length ≤ 1
  · rw [Line.addFrameByte_tail hshort]
    refine ⟨hmark, hesc, hdrop, rfl, hcount', ?_, joined, ?_, hqueue, hcrc⟩
    · simp only [List.length_append, List.length_singleton]
      omega
    · rw [hbs, List.append_assoc]
  · obtain ⟨older, newer, hpair⟩ := List.length_eq_two.1 (show l.tail.length = 2 by omega)
    have hq : l.queue.length ≤ 6 := by
      rw [hqueue, List.length_map]
      omega
    rw [Line.addFrameByte_pair hpair, if_pos hq]
    refine ⟨hmark, hesc, hdrop, rfl, hcount', ?_, joined ++ [older], ?_, ?_, ?_⟩
    · simp only [List.length_append, List.length_cons, List.length_nil]
      omega
    · rw [hbs, hpair]
      simp
    · rw [hqueue, List.map_append]
      rfl
    · rw [hcrc, crcOf_append]

/-- The framed receive machine takes a character without error. -/
def Line.hearCharacter (l : Line) (c : Byte) : Line := l.receiveFramed (.char c false false)

/-- The stuffed form of a byte is received as the byte (R111, Table 29). -/
theorem Line.collected_stuffed {l0 : Line} {bs : List Byte} {b : Byte} (hne : l0.escapeChar ≠ l0.markChar)
    (hcomp : l0.escapeChar ≠ ~~~l0.markChar) (h : Line.Collected l0 bs l) (hroom : bs.length ≤ 8) :
    Line.Collected l0 (bs ++ [b]) ((stuffed l0.markChar l0.escapeChar b).foldl Line.hearCharacter l) := by
  have hjoin := Line.collected_addFrameByte (b := b) h hroom
  obtain ⟨hmark, hesc, -, hrx, -⟩ := h
  by_cases hspecial : b = l0.markChar ∨ b = l0.escapeChar
  · rw [stuffed_special hspecial]
    have hescaped : l.hearCharacter l0.escapeChar = { l with frameRx := .escaped } := by
      rw [Line.hearCharacter, ← hesc, Line.receiveFramed_escape (by rw [hesc, hmark]; exact hne), Line.frameEscapeSeen,
        hrx]
    have hm : ~~~b ≠ l0.markChar := by
      rcases hspecial with rfl | rfl
      · exact fun h => absurd h (by bv_omega)
      · exact fun h => hcomp (by rw [← h, BitVec.not_not])
    have he : ~~~b ≠ l0.escapeChar := by
      rcases hspecial with rfl | rfl
      · exact fun h => hcomp h.symm
      · exact fun h => absurd h (by bv_omega)
    rw [List.foldl_cons, hescaped, List.foldl_cons, List.foldl_nil, Line.hearCharacter,
      Line.receiveFramed_plain (by rw [← hmark] at hm; exact hm) (by rw [← hesc] at he; exact he), Line.frameByteSeen,
      BitVec.not_not, Line.addFrameByte_frameRx]
    exact hjoin
  · obtain ⟨hm, he⟩ := not_or.1 hspecial
    rw [stuffed_plain hm he, List.foldl_cons, List.foldl_nil, Line.hearCharacter,
      Line.receiveFramed_plain (by rw [hmark]; exact hm) (by rw [hesc]; exact he), Line.frameByteSeen, hrx]
    exact hjoin

/-- The stuffed bytes of a frame are received as the bytes, as long as the queue has room for them. -/
theorem Line.collected_payload {l0 : Line} {bs : List Byte} (hne : l0.escapeChar ≠ l0.markChar)
    (hcomp : l0.escapeChar ≠ ~~~l0.markChar) (payload : List Byte) (h : Line.Collected l0 bs l)
    (hroom : bs.length + payload.length ≤ 9) :
    Line.Collected l0 (bs ++ payload)
      ((payload.map (stuffed l0.markChar l0.escapeChar)).flatten.foldl Line.hearCharacter l) := by
  induction payload generalizing bs l with
  | nil =>
    rw [List.append_nil]
    exact h
  | cons b payload ih =>
    rw [List.length_cons] at hroom
    rw [List.map_cons, List.flatten_cons, List.foldl_append]
    have hnext := ih (Line.collected_stuffed (b := b) hne hcomp h (by omega))
      (by rw [List.length_append, List.length_singleton]; omega)
    rwa [List.append_assoc, List.singleton_append] at hnext

/-- The CRC's two bytes are the CRC (R110). -/
theorem crcHigh_append_crcLow (r : BitVec 16) : crcHigh r ++ crcLow r = r := by
  unfold crcHigh crcLow
  exact BitVec.extractLsb'_append_extractLsb'_eq_extractLsb' (by decide) |>.trans (by simp)

/-- Settles O51: the opening MARK begins a frame, the stuffed bytes collect, and the closing MARK finds the CRC in the
tail pair. -/
theorem framedReceiverRecoversThePayload : Obligations.FramedReceiverRecoversThePayload := by
  unfold Obligations.FramedReceiverRecoversThePayload
  intro l payload hhunt hempty hne hcomp hpos hlen r
  have hbegun : Line.Collected l [] (l.hearCharacter l.markChar) := by
    rw [Line.hearCharacter, Line.receiveFramed_mark, Line.frameMarkSeen, hhunt]
    exact ⟨rfl, rfl, rfl, rfl, rfl, rfl, [], rfl, hempty, rfl⟩
  have hpayload := Line.collected_payload hne hcomp (payload ++ [crcHigh (crcOf payload), crcLow (crcOf payload)]) hbegun
    (by simp; omega)
  rw [List.nil_append] at hpayload
  generalize hk : (((payload ++ [crcHigh (crcOf payload), crcLow (crcOf payload)]).map
    (stuffed l.markChar l.escapeChar)).flatten.foldl Line.hearCharacter (l.hearCharacter l.markChar)) = k at hpayload
  have hr : r = k.hearCharacter l.markChar := by
    rw [← hk]
    simp only [r, frameCharacters, List.map_append, List.map_cons, List.map_nil, List.flatten_append, List.flatten_cons,
      List.flatten_nil, List.append_nil, List.foldl_append, List.foldl_cons, List.foldl_nil]
    rfl
  obtain ⟨hmark, hesc, hdrop, hrx, hcount, htail, joined, hbs, hqueue, hcrc⟩ := hpayload
  have htwo : k.tail.length = 2 := by
    rw [htail]
    simp
  obtain ⟨hjoined, hpair⟩ := List.append_inj' hbs htwo.symm
  have hgood : k.checkFrame = .good := by
    rw [Line.checkFrame, ← hpair]
    exact if_pos (by rw [hcrc, ← hjoined, crcHigh_append_crcLow])
  have hthree : k.frameBytes = 3 := by
    rw [hcount]
    simp
    omega
  have hend : r = k.endFrame .good := by
    rw [hr, Line.hearCharacter, ← hmark, Line.receiveFramed_mark, Line.frameMarkSeen, hrx]
    dsimp only
    rw [if_neg (by omega), if_neg (by omega), hgood]
  have hroom : k.queue.length < 8 := by
    rw [hqueue, List.length_map, ← hjoined]
    omega
  rw [hend, Line.endFrame_eq, if_pos hroom, hqueue, ← hjoined]
  exact ⟨rfl, rfl, rfl, hdrop⟩

/-! ### The transmitter's sequences -/

/-- The characters that pieces stand for, from the CRC register and frame characters of the line on (R121). -/
def Line.spelling (l : Line) : List Piece → List Byte
  | [] => []
  | p :: ps => l.pieceChars p ++ Line.spelling { l with txCrc := pieceCrc l.txCrc p } ps

/-- What the transmitter spells depends on the frame characters and the CRC register only. -/
theorem Line.spelling_congr {k : Line} (ps : List Piece) (hmark : k.markChar = l.markChar)
    (hesc : k.escapeChar = l.escapeChar) (hcrc : k.txCrc = l.txCrc) : k.spelling ps = l.spelling ps := by
  induction ps generalizing k l with
  | nil => rfl
  | cons p ps ih =>
    have hchars : k.pieceChars p = l.pieceChars p := by
      cases p <;> simp only [Line.pieceChars, hmark, hesc, hcrc]
    rw [Line.spelling, Line.spelling, hchars]
    exact congrArg _ (ih hmark hesc (by rw [hcrc]))

/-- A character already stuffed stands for itself. -/
theorem Line.spelling_plain (l : Line) (cs : List Byte) (ps : List Piece) :
    l.spelling (cs.map Piece.plain ++ ps) = cs ++ l.spelling ps := by
  induction cs with
  | nil => rfl
  | cons c cs ih => exact congrArg (c :: ·) ih

theorem pieceCrc_foldl_plain (r : BitVec 16) (cs : List Byte) (ps : List Piece) :
    (cs.map Piece.plain ++ ps).foldl pieceCrc r = ps.foldl pieceCrc r := by
  induction cs with
  | nil => rfl
  | cons c cs ih => exact ih

/-- Every piece stands for a character at least. -/
theorem Line.pieceChars_eq_cons (l : Line) (p : Piece) : ∃ c cs, l.pieceChars p = c :: cs := by
  have hstuffed (v : Byte) : ∃ c cs, stuffed l.markChar l.escapeChar v = c :: cs := by
    unfold stuffed
    split
    · exact ⟨_, _, rfl⟩
    · exact ⟨_, _, rfl⟩
  cases p with
  | opening | closing | plain _ => exact ⟨_, _, rfl⟩
  | payload _ | crcHigh | crcLow => exact hstuffed _

theorem Line.length_le_spelling (l : Line) (ps : List Piece) : ps.length ≤ (l.spelling ps).length := by
  induction ps generalizing l with
  | nil => rfl
  | cons p ps ih =>
    obtain ⟨c, cs, hchars⟩ := l.pieceChars_eq_cons p
    have hrest := ih { l with txCrc := pieceCrc l.txCrc p }
    rw [Line.spelling, hchars]
    simp only [List.length_append, List.length_cons]
    omega

/-- The line as it is when its shifter sends the last of the pieces `ps`: the CRC register has taken them. -/
def Line.Sent (l : Line) (ps : List Piece) (k : Line) : Prop :=
  k.markChar = l.markChar ∧ k.escapeChar = l.escapeChar ∧ k.txCrc = ps.foldl pieceCrc l.txCrc

/-- The shifter sends what the pieces spell (R121). -/
theorem Line.drain_sendPieces (n : Nat) (l : Line) (what : Sending) (f : Format) (p : Piece) (ps : List Piece)
    (h : (l.spelling (p :: ps)).length ≤ n + 1) :
    (Line.drain n (l.sendPieces what f (p :: ps))).1 = l.spelling (p :: ps) ∧
      l.Sent (p :: ps) (Line.drain n (l.sendPieces what f (p :: ps))).2 := by
  obtain ⟨c, cs, hchars⟩ := l.pieceChars_eq_cons p
  induction n generalizing l p ps c cs with
  | zero =>
    have hps := Line.length_le_spelling { l with txCrc := pieceCrc l.txCrc p } ps
    rw [Line.spelling, hchars, List.length_append, List.length_cons] at h
    have hcs : cs = [] := List.eq_nil_of_length_eq_zero (by omega)
    have hnil : ps = [] := List.eq_nil_of_length_eq_zero (by omega)
    subst hcs hnil
    simp only [Line.drain, Line.sendPieces, Line.spelling, hchars]
    exact ⟨rfl, rfl, rfl, rfl⟩
  | succ n ih =>
    by_cases hlast : cs.map Piece.plain ++ ps = []
    · obtain ⟨hcs, hnil⟩ := List.append_eq_nil_iff.1 hlast
      rw [List.map_eq_nil_iff] at hcs
      subst hcs hnil
      simp only [Line.drain, Line.sendPieces, Line.spelling, hchars, List.tail_cons, List.map_nil, List.append_nil,
        if_true]
      exact ⟨rfl, rfl, rfl, rfl⟩
    · obtain ⟨q, qs, hnext⟩ := List.exists_cons_of_ne_nil hlast
      set k := l.sendPieces what f (p :: ps) with hk
      have hshifter : k.shifter = .sending
          { what := what, char := c, rest := q :: qs, clocks := 0, format := f, loop := setLoop l.setting } := by
        simp only [hk, Line.sendPieces, hchars, List.headD_cons, List.tail_cons, hnext]
      have hcrc : k.txCrc = pieceCrc l.txCrc p := rfl
      have hspell : k.spelling (q :: qs) = cs ++ Line.spelling { l with txCrc := pieceCrc l.txCrc p } ps := by
        rw [← hnext, Line.spelling_plain]
        exact congrArg _ (Line.spelling_congr ps rfl rfl rfl)
      have hall : l.spelling (p :: ps) = c :: k.spelling (q :: qs) := by
        rw [Line.spelling, hchars, hspell]
        rfl
      have hdrain : Line.drain (n + 1) k =
          (c :: (Line.drain n (k.sendPieces what f (q :: qs))).1, (Line.drain n (k.sendPieces what f (q :: qs))).2) := by
        rw [Line.drain, hshifter]
        exact if_neg (List.cons_ne_nil q qs)
      obtain ⟨c', cs', hchars'⟩ := k.pieceChars_eq_cons q
      obtain ⟨hout, hmark, hesc, hsent⟩ := ih k q qs (by rw [hall, List.length_cons] at h; omega) c' cs' hchars'
      rw [hdrain]
      refine ⟨by rw [hall, hout], hmark, hesc, ?_⟩
      rw [hsent, hcrc, ← hnext, pieceCrc_foldl_plain]
      rfl

/-- The characters of a frame from a payload byte on, the CRC register at `r` (R111). -/
def frameRest (mark esc : Byte) (r : BitVec 16) (payload : List Byte) : List Byte :=
  (payload.map (stuffed mark esc)).flatten ++ stuffed mark esc (crcHigh (payload.foldl crcByte r)) ++
    stuffed mark esc (crcLow (payload.foldl crcByte r)) ++ [mark]

theorem stuffed_length_le (mark esc v : Byte) : (stuffed mark esc v).length ≤ 2 := by
  unfold stuffed
  split <;> simp

/-- The characters of one payload byte's sequence (R121): the MARK before the first byte, the CRC and the MARK after the
last. -/
def sequenceCharacters (mark esc : Byte) (r : BitVec 16) (b : Byte) (first last : Bool) : List Byte :=
  (if first then [mark] else []) ++ stuffed mark esc b ++
    if last then stuffed mark esc (crcHigh r) ++ stuffed mark esc (crcLow r) ++ [mark] else []

theorem sequenceCharacters_length_le (mark esc : Byte) (r : BitVec 16) (b : Byte) (first last : Bool) :
    (sequenceCharacters mark esc r b first last).length ≤ 9 := by
  have hb := stuffed_length_le mark esc b
  have hhigh := stuffed_length_le mark esc (crcHigh r)
  have hlow := stuffed_length_le mark esc (crcLow r)
  unfold sequenceCharacters
  split_ifs <;> simp only [List.length_append, List.length_singleton, List.length_nil] <;> omega

/-- One payload byte goes out as its sequence, and the CRC register has taken it (R121). -/
theorem Line.framesOut_cons (l : Line) (f : Format) (b : Byte) (first last : Bool) (rest : List Holding) :
    ∃ k : Line, k.markChar = l.markChar ∧ k.escapeChar = l.escapeChar ∧
      k.txCrc = crcByte (if first then 0xFFFF else l.txCrc) b ∧
      l.framesOut f ({ byte := b, first := first, last := last, source := .order } :: rest) =
        sequenceCharacters l.markChar l.escapeChar k.txCrc b first last ++ k.framesOut f rest := by
  obtain ⟨p, ps, hpieces⟩ : ∃ p ps, ({ byte := b, first := first, last := last, source := .order } : Holding).pieces =
      p :: ps := by cases first <;> exact ⟨_, _, rfl⟩
  have hspell : Line.spelling { l with holding := none, ownByte := false } (p :: ps) =
      sequenceCharacters l.markChar l.escapeChar (crcByte (if first then 0xFFFF else l.txCrc) b) b first last := by
    rw [← hpieces]
    cases first <;> cases last <;>
      simp [Holding.pieces, Line.spelling, Line.pieceChars, pieceCrc, sequenceCharacters]
  have hcrc : (p :: ps).foldl pieceCrc l.txCrc = crcByte (if first then 0xFFFF else l.txCrc) b := by
    rw [← hpieces]
    cases first <;> cases last <;> rfl
  obtain ⟨hout, hmark, hesc, hsent⟩ := Line.drain_sendPieces 8 { l with holding := none, ownByte := false }
    (.frame last) f p ps (by rw [hspell]; exact sequenceCharacters_length_le _ _ _ _ _ _)
  refine ⟨_, hmark, hesc, hsent.trans hcrc, ?_⟩
  rw [hsent.trans hcrc, ← hspell, ← hout, ← hpieces]
  rfl

/-- The bytes of a payload go out one after the other (R121): the first one opens the frame and presets the CRC. -/
theorem Line.framesOut_payloadHoldings (first : Bool) (l : Line) (f : Format) (b : Byte) (payload : List Byte) :
    l.framesOut f (payloadHoldings first (b :: payload)) =
      (if first then [l.markChar] else []) ++
        frameRest l.markChar l.escapeChar (if first then 0xFFFF else l.txCrc) (b :: payload) := by
  induction payload generalizing first l b with
  | nil =>
    obtain ⟨k, -, -, hcrc, hout⟩ := l.framesOut_cons f b first true []
    rw [payloadHoldings, hout, hcrc]
    simp [sequenceCharacters, frameRest, Line.framesOut]
  | cons b' payload ih =>
    obtain ⟨k, hmark, hesc, hcrc, hout⟩ := l.framesOut_cons f b first false (payloadHoldings false (b' :: payload))
    have hholdings : payloadHoldings first (b :: b' :: payload) =
        { byte := b, first := first, last := false, source := .order } :: payloadHoldings false (b' :: payload) := rfl
    rw [hholdings, hout, ih, hmark, hesc, hcrc]
    simp [sequenceCharacters, frameRest]

/-- Settles O53: a frame's payload holds a first byte. -/
theorem transmitterSendsTheWholeFrame : Obligations.TransmitterSendsTheWholeFrame := by
  unfold Obligations.TransmitterSendsTheWholeFrame
  intro l f payload hne
  obtain ⟨b, rest, rfl⟩ := List.exists_cons_of_ne_nil hne
  rw [Line.framesOut_payloadHoldings, if_pos rfl, if_pos rfl]
  simp [frameRest, frameCharacters, crcOf]

end Sys2Proof.Machine
end

section
/-! Completions and breaks (R49 to R53, R61, R102), and one step of the part (log entries 1 and 3). -/

namespace Sys2Proof.Machine

variable {s t u : State} {l : Line} {n : LineNo} {f : State → State}

/-! ### A completion -/

/-- The line when its receiver has completed and gone on to a phase (R49, R50, R61). -/
def Line.heardIn (l : Line) (phase : RxPhase) : Line :=
  { l with
    receiver := { l.receiver with phase := phase, clocks := 0, before := l.loopLevel, samples := [] }
    idleStarted := true
    idleBits := 0
    idleClocks := 0
    idleDue := false }

theorem Line.complete_eq (s : State) (l : Line) (c : Completed) : Line.complete s l c =
    Line.tend s
      (if l.framed then (l.heardIn (phaseAfterCompletion c)).receiveFramed c
      else (l.heardIn (phaseAfterCompletion c)).receiveAsync s c) := rfl

/-- A receiver at the pin completes where its row says so, outside STANDBY and WAKING. -/
theorem leads_completion (hopen : s.open = true) (hphase : (s.line n).receiver.phase = .assemble)
    (hloop : (s.line n).receiver.loop = false) (data : Byte) (parityBit stopBit : Bool) :
    Leads (exec (.completion n data parityBit stopBit) s)
      (s.putLine n (Line.complete s (s.line n) (completed (s.line n).receiver.format data parityBit stopBit))) := by
  obtain ⟨hset, hshut⟩ := (State.open_iff s).1 hopen
  rw [exec_completion]
  refine leads_command hset ?_
  have hcompletes : (s.line n).completes = true := by simp [Line.completes, hphase, hloop]
  have hruns : s.clockRuns = true := by simp [State.clockRuns, hshut]
  rw [State.completeAt, hruns, hcompletes, Line.completedOf_of_pin _ _ _ hloop]
  rfl

/-- A break is the completion with every bit at space (R50). -/
theorem exec_breakSeen_eq (n : LineNo) (s : State) : exec (.breakSeen n) s = exec (.completion n 0 false false) s := by
  rw [exec_breakSeen, exec_completion]

theorem lineValue_zero (f : Format) : lineValue f 0 = 0 := by
  unfold lineValue
  simp

theorem completed_brk {f : Format} {data : Byte} (h : lineValue f data = 0) : completed f data false false = .brk := by
  rw [completed, if_pos ⟨h, by simp, rfl⟩]

/-- A line whose IDLE_DUE is clear ends a doze exactly where an entry has joined (R159). -/
theorem State.putLine_of_idle {l' : Line} (h : l'.idleDue = false) : s.putLine n l' =
    if (s.line n).queue.length < l'.queue.length then (s.setLine n l').endDoze else s.setLine n l' := by
  simp [State.putLine, Line.tells, h]

/-- The framed receive machine leaves the transmitter alone. -/
theorem Line.tend_receiveFramed (h : l.atRest s) (phase : RxPhase) (c : Completed) :
    Line.tend s ((l.heardIn phase).receiveFramed c) = (l.heardIn phase).receiveFramed c := by
  have hrest : ((l.heardIn phase).receiveFramed c).atRest s := by
    rw [Line.receiveFramed_eq]
    exact Line.atRest_of_agrees h rfl rfl rfl rfl rfl rfl rfl rfl rfl (.inr (.inl rfl))
  exact hrest

theorem Line.receiveFramed_idleDue (phase : RxPhase) (c : Completed) :
    ((l.heardIn phase).receiveFramed c).idleDue = false := by
  rw [Line.receiveFramed_eq]
  rfl

/-- A framed line's completion goes to the framed receive machine, and an entry that joins ends a doze (R51, R159). -/
theorem putLine_complete_framed (hrest : (s.line n).atRest s) (hframed : (s.line n).framed = true) (c : Completed) :
    s.putLine n (Line.complete s (s.line n) c) =
      (let k := ((s.line n).heardIn (phaseAfterCompletion c)).receiveFramed c
      if (s.line n).queue.length < k.queue.length then (s.setLine n k).endDoze else s.setLine n k) := by
  rw [Line.complete_eq, if_pos hframed, Line.tend_receiveFramed hrest]
  exact State.putLine_of_idle (Line.receiveFramed_idleDue _ _)

/-- An asynchronous line's entry joins a queue with room and ends a doze (R52, R159). -/
theorem putLine_join (hrest : (s.line n).atRest s) (phase : RxPhase) (e : Entry)
    (hroom : (s.line n).queue.length < 8) :
    s.putLine n (Line.tend s (((s.line n).heardIn phase).joinOrLose e)) =
      (s.setLine n
        { (s.line n).heardIn phase with
          queue := (s.line n).queue ++ [e]
          pacing := pacingAfter (s.line n).pacing ((s.line n).queue.length + 1) }).endDoze := by
  have hjoin : ((s.line n).heardIn phase).joinOrLose e =
      { (s.line n).heardIn phase with
        queue := (s.line n).queue ++ [e]
        pacing := pacingAfter (s.line n).pacing ((s.line n).queue.length + 1) } := by
    rcases Line.joinOrLose_cases (l := (s.line n).heardIn phase) e with ⟨-, h⟩ | ⟨hfull, -⟩
    · exact h
    · exact absurd hfull (Nat.not_le.2 hroom)
  have hcalm : Line.tend s (((s.line n).heardIn phase).joinOrLose e) = ((s.line n).heardIn phase).joinOrLose e := by
    rw [hjoin]
    exact Line.atRest_of_agrees hrest rfl rfl rfl rfl rfl rfl rfl rfl rfl (.inr (.inl rfl))
  rw [hcalm, hjoin, State.putLine_of_idle rfl, if_pos (by simp)]

/-- An asynchronous line's entry is lost to a full queue and marks the newest one (R53). -/
theorem putLine_lose (hrest : (s.line n).atRest s) (phase : RxPhase) (e : Entry) {q : List Entry} {last : Entry}
    (hq : (s.line n).queue = q ++ [last]) (hlen : q.length = 7) :
    s.putLine n (Line.tend s (((s.line n).heardIn phase).joinOrLose e)) =
      s.setLine n { (s.line n).heardIn phase with queue := q ++ [last.lossAfter] } := by
  have hfull : (s.line n).queue.length = 8 := by rw [hq, List.length_append, hlen]; rfl
  have hlose : ((s.line n).heardIn phase).joinOrLose e =
      { (s.line n).heardIn phase with queue := q ++ [last.lossAfter] } := by
    rcases Line.joinOrLose_cases (l := (s.line n).heardIn phase) e with ⟨hroom, -⟩ | ⟨-, h⟩
    · exact absurd hroom (Nat.not_lt.2 hfull.ge)
    · rw [h, ← lossOnNewest_append, ← hq]
      rfl
  have hcalm : Line.tend s (((s.line n).heardIn phase).joinOrLose e) = ((s.line n).heardIn phase).joinOrLose e := by
    rw [hlose]
    exact Line.atRest_of_agrees hrest rfl rfl rfl rfl rfl rfl rfl rfl rfl (.inr (.inl rfl))
  rw [hcalm, hlose, State.putLine_of_idle rfl, if_neg (by simp [hfull, hlen])]

/-- Settles O49: the completion is a break, and an asynchronous line queues or loses it. -/
theorem breaksJoinAndWaitForMark : Obligations.BreaksJoinAndWaitForMark := by
  unfold Obligations.BreaksJoinAndWaitForMark
  intro n s hopen l hphase hloop hrest heard
  have hleads := leads_completion hopen hphase hloop 0 false false
  rw [completed_brk (lineValue_zero _), ← exec_breakSeen_eq] at hleads
  refine ⟨fun hframed => ?_, fun hasync hroom => ?_, fun data hdata => ?_, fun q e hasync hq hlen => ?_⟩
  · rw [putLine_complete_framed hrest hframed] at hleads
    have hkeep : (heard.receiveFramed .brk).queue = l.queue := by
      change (heard.frameErrorSeen .brk).queue = _
      unfold Line.frameErrorSeen
      split <;> rfl
    dsimp only at hleads
    rw [if_neg ?_] at hleads
    · exact hleads
    · exact Nat.not_lt.2 (congrArg List.length hkeep).le
  · rw [Line.complete_eq, if_neg (by simpa using hasync)] at hleads
    exact putLine_join hrest .recover (.brk false) hroom ▸ hleads
  · obtain ⟨hset, hshut⟩ := (State.open_iff s).1 hopen
    rw [exec_breakSeen, exec_completion, command_settled hset, command_settled hset]
    unfold State.completeAt
    rw [Line.completedOf_of_pin _ _ _ hloop, Line.completedOf_of_pin _ _ _ hloop, completed_brk hdata,
      completed_brk (lineValue_zero _)]
  · rw [Line.complete_eq, if_neg (by simpa using hasync)] at hleads
    have hlose := putLine_lose hrest .recover (.brk false) hq hlen
    cases e <;> exact hlose ▸ hleads

/-- The class bits of a character (R98, R102). -/
def Line.classesOf (s : State) (l : Line) (value : Byte) (parity framing : Bool) : BitVec 4 :=
  if parity || framing then 0 else classLookup s.classTable (setClassB l.setting) value

section
variable {value : Byte} {parity framing : Bool} {classes : BitVec 4}
  (hclasses : l.classesOf s value parity framing = classes)
include hclasses

/-- DROP discards the character (R102). -/
theorem Line.receiveAsync_drop (hdrop : classes.getLsbD 3 = true) :
    l.receiveAsync s (.char value parity framing) = l := by
  subst hclasses
  exact if_pos hdrop

/-- Under INBAND, RELEASE clears the in-band hold flag (R103). -/
theorem Line.receiveAsync_release (hdrop : classes.getLsbD 3 = false) (hinband : setInband l.setting = true)
    (hrelease : classes.getLsbD 2 = true) :
    l.receiveAsync s (.char value parity framing) = { l with inbandHold := false } := by
  subst hclasses
  exact (if_neg (ne_true_of_eq_false hdrop)).trans (if_pos (Bool.and_eq_true_iff.2 ⟨hinband, hrelease⟩))

/-- Under INBAND, HOLD sets the in-band hold flag (R103). -/
theorem Line.receiveAsync_hold (hdrop : classes.getLsbD 3 = false) (hinband : setInband l.setting = true)
    (hrelease : classes.getLsbD 2 = false) (hhold : classes.getLsbD 1 = true) :
    l.receiveAsync s (.char value parity framing) = { l with inbandHold := true } := by
  subst hclasses
  exact (if_neg (ne_true_of_eq_false hdrop)).trans ((if_neg fun h => ne_true_of_eq_false hrelease
    (Bool.and_eq_true_iff.1 h).2).trans (if_pos (Bool.and_eq_true_iff.2 ⟨hinband, hhold⟩)))

/-- A character that is neither dropped nor consumed joins or is lost (R52). -/
theorem Line.receiveAsync_entry (hdrop : classes.getLsbD 3 = false)
    (hconsumed : ¬(setInband l.setting = true ∧ (classes.getLsbD 1 = true ∨ classes.getLsbD 2 = true))) :
    l.receiveAsync s (.char value parity framing) = l.joinOrLose (.data value parity framing false classes) := by
  subst hclasses
  exact (if_neg (ne_true_of_eq_false hdrop)).trans
    ((if_neg fun h => hconsumed ((Bool.and_eq_true_iff.1 h).imp_right .inr)).trans
      (if_neg fun h => hconsumed ((Bool.and_eq_true_iff.1 h).imp_right .inl)))

end

/-- A line at rest that goes into hold state is at rest. -/
theorem Line.atRest_hold (h : l.atRest s) (phase : RxPhase) :
    ({ l.heardIn phase with inbandHold := true } : Line).atRest s := by
  rw [Line.atRest_iff] at h ⊢
  obtain ⟨hcalm, htimer⟩ := h
  refine ⟨?_, fun hnot => htimer ?_⟩
  · rcases hcalm with h | h | h
    · exact .inl h
    · exact .inr (.inl (by simp [Line.inHold]))
    · exact .inr (.inr h)
  · simp only [Line.holdTimed, Line.inHold, Line.heardIn, Bool.or_true, Bool.true_and] at hnot ⊢
    simp [Bool.and_assoc, hnot]

/-- Settles O48: by the path, and on an asynchronous line by the class bits. -/
theorem completionsJoinDropOrAreLost : Obligations.CompletionsJoinDropOrAreLost := by
  unfold Obligations.CompletionsJoinDropOrAreLost
  intro n data parityBit stopBit s hopen l hphase hloop hrest f value parity framing hnot classes heard r consumed
  have hleads := leads_completion hopen hphase hloop data parityBit stopBit
  have hchar : completed f data parityBit stopBit = .char value parity framing := by rw [completed, if_neg hnot]
  rw [hchar] at hleads
  change Leads r _ at hleads
  refine ⟨fun hframed => ?_, fun hasync => ?_⟩
  · rwa [putLine_complete_framed hrest hframed] at hleads
  have hclasses : (l.heardIn .search).classesOf s value parity framing = classes := by
    rw [Line.classesOf]
    simp only [Bool.or_eq_true]
    rfl
  rw [Line.complete_eq, if_neg (by simpa using hasync)] at hleads
  change Leads r (s.putLine n (Line.tend s ((l.heardIn .search).receiveAsync s (.char value parity framing)))) at hleads
  have hsame {l' : Line} (hidle : l'.idleDue = false) (hqueue : l'.queue = l.queue) :
      s.putLine n l' = s.setLine n l' := by
    rw [State.putLine_of_idle hidle, if_neg (by rw [hqueue]; exact Nat.lt_irrefl _)]
  clear_value classes r
  refine ⟨fun hdrop => ?_, fun hdrop hinband hrelease => ?_, fun hdrop hinband hrelease hhold => ?_,
    fun hdrop hconsumed hroom => ?_, fun q e hdrop hconsumed hq hlen => ?_⟩
  · have hcalm : Line.tend s (l.heardIn .search) = l.heardIn .search :=
      Line.atRest_of_agrees hrest rfl rfl rfl rfl rfl rfl rfl rfl rfl (.inr (.inl rfl))
    rw [Line.receiveAsync_drop hclasses hdrop, hcalm, hsame (l' := l.heardIn .search) rfl rfl] at hleads
    exact hleads
  · rw [Line.receiveAsync_release hclasses hdrop hinband hrelease, hsame ?_ ?_] at hleads
    · exact hleads
    · rw [Line.tend_eq]
      rfl
    · rw [Line.tend_eq]
      rfl
  · have hcalm : Line.tend s { l.heardIn .search with inbandHold := true } =
        { l.heardIn .search with inbandHold := true } := Line.atRest_hold hrest .search
    rw [Line.receiveAsync_hold hclasses hdrop hinband hrelease hhold, hcalm,
      hsame (l' := { l.heardIn .search with inbandHold := true }) rfl rfl] at hleads
    exact hleads
  · rw [Line.receiveAsync_entry hclasses hdrop hconsumed, putLine_join hrest .search _ hroom] at hleads
    exact hleads
  · rw [Line.receiveAsync_entry hclasses hdrop hconsumed, putLine_lose hrest .search _ hq hlen] at hleads
    cases e <;> exact hleads

end Sys2Proof.Machine
end

section
/-! One step of the part: the front command, and with none waiting one period of the reference clock (log entries 1 and
3). -/

namespace Sys2Proof.Machine

variable {s t u : State} {l : Line} {n : LineNo} {v : Visit} {f : State → State}

/-! ### What an instant leaves of the beat -/

/-- `t` follows `s` within one instant: the beat has not gone on, and the part has not begun to wake. -/
structure SameBeat (s t : State) : Prop where
  beatClocks : t.beatClocks = s.beatClocks
  awake : s.power ≠ .waking → t.power ≠ .waking

theorem SameBeat.refl (s : State) : SameBeat s s := ⟨rfl, id⟩

theorem SameBeat.trans (h : SameBeat s t) (h' : SameBeat t u) : SameBeat s u :=
  ⟨h'.beatClocks.trans h.beatClocks, h'.awake ∘ h.awake⟩

theorem SameBeat.ite {c : Prop} [Decidable c] (h : SameBeat s t) (h' : SameBeat s u) :
    SameBeat s (if c then t else u) := by
  split
  exacts [h, h']

theorem sameBeat_moveSeq (q : SeqState) : SameBeat s (s.moveSeq q) :=
  .ite ⟨rfl, fun _ => nofun⟩ ⟨rfl, id⟩

theorem sameBeat_onLines (g : LineNo → Line → Line) : SameBeat s (s.onLines g) := ⟨rfl, id⟩

theorem sameBeat_endDoze : SameBeat s s.endDoze := .ite ⟨rfl, fun _ => nofun⟩ (.refl s)

theorem sameBeat_enterDoze : SameBeat s s.enterDoze :=
  .ite ⟨rfl, fun _ => nofun⟩ ⟨rfl, fun _ => nofun⟩

theorem sameBeat_settleSeq : SameBeat s s.settleSeq := by
  unfold State.settleSeq
  split
  · exact sameBeat_moveSeq _
  · exact sameBeat_moveSeq _
  · exact (sameBeat_moveSeq _).trans (sameBeat_onLines _)
  all_goals exact .refl s

theorem sameBeat_offer (e : EventRec) : SameBeat s (s.offer e) := .ite ⟨rfl, id⟩ ⟨rfl, id⟩

theorem sameBeat_endVisit : SameBeat s (endVisit s v) := by
  unfold endVisit
  have hreset : SameBeat s (if v.resetHeld then s.applyLineReset v.line else s) := .ite ⟨rfl, id⟩ (.refl s)
  have hfree : SameBeat s { (if v.resetHeld then s.applyLineReset v.line else s) with visit := none, mem := none } :=
    hreset.trans ⟨rfl, id⟩
  exact (hfree.trans sameBeat_settleSeq).trans (.ite sameBeat_enterDoze (.refl _))

theorem Within.sameBeat (h : Within n s u) : SameBeat s u :=
  ⟨h.field State.beatClocks fun _ => rfl, fun hp => (h.field State.power fun _ => rfl).trans_ne hp⟩

theorem Proceeds.sameBeat (h : Proceeds s v t) : SameBeat s t := by
  cases h with
  | issues hw => exact hw.sameBeat.trans ⟨rfl, id⟩
  | ends hw => exact hw.sameBeat.trans sameBeat_endVisit
  | @fails u hw x cause =>
    have hfail : SameBeat u (u.onLine v.line fun l => Line.tend u l.fail) := ⟨rfl, id⟩
    exact hw.sameBeat.trans ((hfail.trans (sameBeat_offer _)).trans sameBeat_endVisit)

theorem sameBeat_expireTimeout : SameBeat s s.expireTimeout := by
  unfold State.expireTimeout
  split
  · next hdue =>
    obtain ⟨v, x, hv, hm, -⟩ := State.timeoutDue_iff.1 hdue
    have hrecord : SameBeat s (s.freeEngine.recordFault x .timeout) := ⟨rfl, id⟩
    exact hrecord.trans (proceeds_timeOut hv hm).sameBeat
  · exact .refl s

theorem sameBeat_guardExpires : SameBeat s s.guardExpires := by
  unfold State.guardExpires State.quiesceSeq
  have halert : SameBeat s { s with alertLiveness := true, guardRunning := false } := ⟨rfl, id⟩
  exact ((halert.trans (sameBeat_offer _)).trans sameBeat_endDoze).trans (.ite (sameBeat_moveSeq _) ((sameBeat_moveSeq _).trans (sameBeat_onLines _)))

/-- What is due at an instant is carried out within it. -/
theorem sameBeat_finishInstant (s : State) : SameBeat s s.finishInstant := by
  have hholds : SameBeat s s.expireHolds := .ite (sameBeat_onLines _) (.refl s)
  have htick (u : State) : SameBeat u u.expireTick := .ite ⟨rfl, id⟩ (.refl u)
  have hguard (u : State) : SameBeat u u.expireGuard := .ite sameBeat_guardExpires (.refl u)
  have hresweep (u : State) : SameBeat u u.expireResweep := .ite ⟨rfl, id⟩ (.refl u)
  have hdoze (u : State) : SameBeat u u.enterAutoDoze := .ite sameBeat_enterDoze (.refl u)
  have hstandby (u : State) : SameBeat u u.enterStandby := .ite ⟨rfl, fun _ => nofun⟩ (.refl u)
  have hend (u : State) : SameBeat u u.endInstant := by
    rw [State.endInstant_eq]
    exact ⟨rfl, id⟩
  exact ((((((hholds.trans sameBeat_expireTimeout).trans (htick _)).trans (hguard _)).trans (hresweep _)).trans
    (hdoze _)).trans (hstandby _)).trans (hend _)

theorem sameBeat_watchIdle (s : State) : SameBeat s s.watchIdle := .ite (.refl s) ⟨rfl, id⟩

/-! ### Counts that have come to their end -/

theorem State.endSettle_of_awake (h : s.power ≠ .waking) : s.endSettle = s := by simp [State.endSettle, h]

theorem State.endBeat_of_within (h : s.beatClocks ≠ 7200) : s.endBeat = s := by
  simp [State.endBeat, Config.clocksPerBeat, h]

/-- Where an instant has come that the clock carries out untold, a step is the step from the state it leads to. -/
theorem idle_of_untold {g : State → State} (h : s.settled = true)
    (hend : s.endSettle.endBeat = (s.untold g).endSettle.endBeat) :
    idle s = idle (g s).watchIdle := by
  have hs : s.clockTick = (s.untold g).clockTick := by
    simp only [State.clockTick, State.endCounts, hend]
  rw [idle_settled h, idle, command, ← State.untold, ← hs]
  rfl

/-- A beat that has come to its end is ended as BEAT_BOUNDARY ends it (R2). -/
theorem idle_beat (h : s.settled = true) (hshut : s.windowShut = false) (hbeat : s.beatClocks = 7200) :
    idle s = idle (s.beat s.sensePins).watchIdle := by
  have hawake : s.power ≠ .waking := fun hp => by simp [State.windowShut, hp] at hshut
  have hruns : s.clockRuns = true := by simp [State.clockRuns, hshut]
  have hsame : SameBeat { s with beatClocks := 0 } (s.untold fun s => s.beat s.sensePins) := by
    have hcount : SameBeat { s with beatClocks := 0 } (s.beat s.sensePins) := by
      unfold State.beat
      rw [if_pos hruns]
      have hstep : SameBeat { s with beatClocks := 0 } (s.countBeat s.sensePins) := ⟨rfl, id⟩
      exact .ite ((hstep.trans sameBeat_endDoze).trans ⟨rfl, id⟩) hstep
    exact (hcount.trans (sameBeat_watchIdle _)).trans (sameBeat_finishInstant _)
  refine idle_of_untold (g := fun s => s.beat s.sensePins) h ?_
  have hwithin : (s.untold fun s => s.beat s.sensePins).beatClocks ≠ 7200 := by
    rw [hsame.beatClocks]
    exact nofun
  rw [State.endSettle_of_awake hawake, State.endSettle_of_awake (hsame.awake hawake),
    State.endBeat_of_within (s := s.untold _) hwithin]
  exact if_pos (by simp [hruns, hbeat, Config.clocksPerBeat])

/-- A settle period that has come to its end is ended as WAKING_END ends it (R163). -/
theorem idle_settle (h : s.settled = true) (hp : s.power = .waking) (hclocks : s.settleClocks = 2048) :
    idle s = idle s.wakingEnds.watchIdle := by
  have hwoken : s.wakingEnds.power ≠ .waking := by
    rw [State.wakingEnds, if_pos hp]
    split
    · exact nofun
    · have hoffers (ns : List LineNo) (u : State) : (ns.foldl State.offerWake u).power = u.power := by
        induction ns generalizing u with
        | nil => rfl
        | cons m ns ih =>
          rw [List.foldl_cons, ih, State.offerWake]
          split
          · rw [State.offer_eq]
          · rfl
      rw [State.wake, State.offerWakes, hoffers]
      exact nofun
  have hsame : SameBeat s.wakingEnds (s.untold State.wakingEnds) :=
    (sameBeat_watchIdle _).trans (sameBeat_finishInstant _)
  refine idle_of_untold h ?_
  rw [State.endSettle_of_awake (hsame.awake hwoken), State.endSettle, hp, hclocks]
  rfl

/-! ### One period -/

/-- What one period of the clock changes of a line: its receiver, its shifter and its idle-gap timer. -/
theorem Line.clock_eq (s : State) (l : Line) : l.clock s =
    { l with
      receiver :=
        { l.receiver with clocks := (l.clock s).receiver.clocks, before := (l.clock s).receiver.before }
      shifter := (l.clock s).shifter
      txPhase := (l.clock s).txPhase
      txCrc := (l.clock s).txCrc
      idleBits := (l.clock s).idleBits
      idleClocks := (l.clock s).idleClocks } := by
  unfold Line.clock
  rw [Line.clockIdle_eq, Line.clockShifter_eq, Line.clockReceiver_eq]

/-- Where the clock runs, the beat divider and the line units advance (R2). -/
theorem State.countClock_of_runs (h : s.windowShut = false) : s.countClock =
    { s.onLines fun _ l => l.clock s with beatClocks := min Config.clocksPerBeat (s.beatClocks + 1) } := by
  unfold State.countClock
  split
  · rfl
  · rfl
  · rfl
  · next hp => simp [State.windowShut, hp] at h
  · next hp => simp [State.windowShut, hp] at h

/-- A period in which no instant has come leaves a line as its receiver hears bits, and counts it. -/
theorem Line.clock_hearBits_eq (s t : State) (l : Line) : (l.hearBits s).clock t =
    { l with
      receiver :=
        { l.receiver with
          clocks := ((l.hearBits s).clock t).receiver.clocks
          before := ((l.hearBits s).clock t).receiver.before
          samples := ((l.hearBits s).clock t).receiver.samples }
      shifter := ((l.hearBits s).clock t).shifter
      txPhase := ((l.hearBits s).clock t).txPhase
      txCrc := ((l.hearBits s).clock t).txCrc
      idleBits := ((l.hearBits s).clock t).idleBits
      idleClocks := ((l.hearBits s).clock t).idleClocks } := by
  have hk := Line.clock_eq t (l.hearBits s)
  generalize (l.hearBits s).clock t = k at hk ⊢
  rw [Line.hearBits_eq] at hk
  rw [hk]

theorem step_of_idle (h : s.pending = []) : step s = idle s := by
  unfold step
  rw [h]

/-- Settles O1: the clause of the queue, then by the power state what one period brings. -/
theorem stepRunsTheFrontCommand : Obligations.StepRunsTheFrontCommand := by
  unfold Obligations.StepRunsTheFrontCommand
  refine ⟨fun c rest s => rfl, fun s hpending hset => ?_⟩
  rw [step_of_idle hpending]
  refine ⟨fun hshut hbeat hnone => ?_, fun hshut hbeat => ?_, fun hp hclocks => ?_, fun hp hclocks => ?_, fun hp => ?_⟩
  · have hawake : s.power ≠ .waking := fun hp => by simp [State.windowShut, hp] at hshut
    have hruns : s.clockRuns = true := by simp [State.clockRuns, hshut]
    have hcounts := State.endCounts_of_none hset (.inl hawake) (.inr hbeat) hnone
    rw [if_pos hruns] at hcounts
    refine ⟨_, idle_settled hset, ?_⟩
    obtain ⟨w, hw⟩ : ∃ w, w = s.onLines fun _ l => l.hearBits s := ⟨_, rfl⟩
    have hcount : w.countClock =
        { s with
          lines := (w.onLines fun _ l => l.clock w).lines
          beatClocks := min Config.clocksPerBeat (s.beatClocks + 1) } := by
      have hsame : w = { s with lines := w.lines } := by rw [hw]; rfl
      rw [State.countClock_of_runs (by rw [hsame]; exact hshut)]
      conv_lhs => rw [State.onLines]
      rw [hsame]
      rfl
    have hline (n : LineNo) : w.countClock.watchIdle.line n = ((s.line n).hearBits s).clock w := by
      have hwn : w.line n = (s.line n).hearBits s := by rw [hw, State.line_onLines]
      rw [State.watchIdle_eq, hcount]
      change (w.onLines fun _ l => l.clock w).line n = _
      rw [State.line_onLines, hwn]
    rw [hcounts, ← hw]
    refine ⟨?_, fun n => ?_⟩
    · rw [State.watchIdle_eq, hcount]
      exact ⟨rfl, ite_eq_or_eq _ _ _⟩
    · rw [hline]
      exact Line.clock_hearBits_eq s w (s.line n)
  · refine ⟨_, by rw [exec_beatBoundary]; exact command_settled hset, ?_⟩
    rw [step_of_idle (((keeps_beat _ hset).trans keeps_watchIdle).pending.trans hpending)]
    exact idle_beat hset hshut hbeat
  · rw [idle]
    refine leads_command hset ?_
    have hcounts : s.endCounts = s := by
      have hend : s.endSettle = s := by simp [State.endSettle, hp, Config.settleClocks, hclocks]
      have hbeat : s.endBeat = s := by simp [State.endBeat, State.clockRuns, State.windowShut, hp]
      simp [State.endCounts, hend, hbeat, State.clockRuns, State.windowShut, hp]
    simp only [State.clockTick, hcounts, State.countClock, hp]
    rfl
  · refine ⟨_, by rw [exec_wakingEnd]; exact command_settled hset, ?_⟩
    rw [step_of_idle ((keeps_wakingEnds.trans keeps_watchIdle).pending.trans hpending)]
    exact idle_settle hset hp hclocks
  · rw [idle]
    refine leads_command hset ?_
    have hcounts : s.endCounts = s := by
      have hend : s.endSettle = s := by simp [State.endSettle, hp]
      have hbeat : s.endBeat = s := by simp [State.endBeat, State.clockRuns, State.windowShut, hp]
      simp [State.endCounts, hend, hbeat, State.clockRuns, State.windowShut, hp]
    simp only [State.clockTick, hcounts, State.countClock, hp]

end Sys2Proof.Machine
end

section
/-! What a step between commands makes of one line: the instants that have come, then one clock period (log entry 3). -/

namespace Sys2Proof.Machine

variable {s t u : State} {l k : Line} {n : LineNo} {v : Visit} {f : State → State}

/-! ### What the instants of a line leave -/

/-- What no instant of a line changes: its setting, its frame characters, and what waits for a beat boundary. -/
def Line.context (l : Line) : Word × Byte × Byte × Bool × Option Nat :=
  (l.setting, l.markChar, l.escapeChar, l.holdReached, l.countBefore)

/-- What the transmitter of a line sends, and what it would send next. -/
def Line.sends (l : Line) : Shifter × TxPhase × BitVec 16 × Option Holding × Bool :=
  (l.shifter, l.txPhase, l.txCrc, l.holding, l.abortPending)

/-- The transmitter starts nothing, whether or not the line is in hold state: it is busy, or has nothing to send. -/
def Line.startsNothing (s : State) (l : Line) : Prop :=
  l.shifter ≠ .empty ∨ (l.abortPending = false ∧ l.underruns (s.seq == .quiesced) = false ∧ l.holding = none)

theorem Line.startsNothing.calm (h : l.startsNothing s) : l.calm s := h.imp_right .inr

theorem Line.startsNothing_congr (h : k.sends = l.sends) (hl : l.startsNothing s) : k.startsNothing s := by
  simp only [Line.sends, Prod.mk.injEq] at h
  obtain ⟨hshifter, hphase, -, hholding, habort⟩ := h
  unfold Line.startsNothing Line.underruns Line.payloadHeld at hl ⊢
  rwa [hshifter, hphase, hholding, habort]

theorem Line.tend_context (s : State) (l : Line) : (Line.tend s l).context = l.context := by
  rw [Line.tend_eq]
  rfl

theorem Line.tend_sends (h : l.startsNothing s) : (Line.tend s l).sends = l.sends := by
  rw [Line.tend_of_calm h.calm, Line.tendHoldTimer_eq]
  rfl

theorem Line.complete_context (s : State) (l : Line) (c : Completed) : (Line.complete s l c).context = l.context := by
  rw [Line.complete_eq, Line.tend_context]
  split
  · rw [Line.receiveFramed_eq]
    rfl
  · rw [Line.receiveAsync_eq]
    rfl

/-- A completion sends nothing where there is nothing to send. -/
theorem Line.complete_sends (h : l.startsNothing s) (c : Completed) : (Line.complete s l c).sends = l.sends := by
  rw [Line.complete_eq]
  have hreceived : (if l.framed then (l.heardIn (phaseAfterCompletion c)).receiveFramed c
      else (l.heardIn (phaseAfterCompletion c)).receiveAsync s c).sends = l.sends := by
    split
    · rw [Line.receiveFramed_eq]
      rfl
    · rw [Line.receiveAsync_eq]
      rfl
  rw [Line.tend_sends (Line.startsNothing_congr hreceived h), hreceived]

/-- The receiver's own instants change nothing but the receiver. -/
theorem Line.fallingEdge_eq (s : State) (l : Line) : l.fallingEdge s = { l with receiver := (l.fallingEdge s).receiver } := by
  unfold Line.fallingEdge
  split <;> rfl

theorem Line.startSample_eq (l : Line) (level : Bool) :
    l.startSample level = { l with receiver := (l.startSample level).receiver } := by
  unfold Line.startSample
  split_ifs <;> rfl

theorem Line.recoverEnds_eq (s : State) (l : Line) : l.recoverEnds s = { l with receiver := (l.recoverEnds s).receiver } := by
  unfold Line.recoverEnds
  split <;> rfl

theorem Line.hearFall_eq (s : State) (l : Line) : l.hearFall s = { l with receiver := (l.hearFall s).receiver } := by
  unfold Line.hearFall
  split
  · exact l.fallingEdge_eq s
  · rfl

/-- What an instant of a looped receiver is: of the receiver alone, but for a completion. -/
theorem Line.hear_cases (s : State) (l : Line) :
    l.hear s = { l with receiver := (l.hear s).receiver } ∨
      ∃ c, l.hear s = (Line.complete s l c).hearFall s := by
  unfold Line.hear
  split
  · unfold Line.hearInstant
    split
    · exact .inl (l.hearFall_eq s)
    · exact .inl (l.startSample_eq false)
    · exact .inr ⟨_, rfl⟩
    all_goals exact .inl (l.recoverEnds_eq s)
  · rw [Line.hearBits_eq]
    exact .inl rfl

theorem Line.hear_context (s : State) (l : Line) : (l.hear s).context = l.context := by
  rcases l.hear_cases s with h | ⟨c, h⟩ <;> rw [h]
  · rfl
  · rw [Line.hearFall_eq]
    exact l.complete_context s c

theorem Line.hear_sends (hl : l.startsNothing s) : (l.hear s).sends = l.sends := by
  rcases l.hear_cases s with h | ⟨c, h⟩ <;> rw [h]
  · rfl
  · rw [Line.hearFall_eq]
    exact Line.complete_sends hl c

theorem Line.checkIdleGap_eq_idle (l : Line) (f : Format) : l.checkIdleGap f =
    { l with idleStarted := (l.checkIdleGap f).idleStarted, idleDue := (l.checkIdleGap f).idleDue } := by
  unfold Line.checkIdleGap Line.setIdleDue
  split_ifs <;> rfl

theorem Line.shifterEnds_context (s : State) (l : Line) : (l.shifterEnds s).context = l.context := by
  unfold Line.shifterEnds
  split
  · exact Line.tend_context _ _
  · exact Line.tend_context _ _
  all_goals rfl

theorem Line.endShifter_context (s : State) (l : Line) : (l.endShifter s).context = l.context := by
  unfold Line.endShifter
  split
  · split
    · unfold Line.breakEnds
      split <;> rfl
    all_goals exact l.shifterEnds_context s
  · rfl

theorem Line.endCounts_context (s : State) (l : Line) : (l.endCounts s).context = l.context := by
  unfold Line.endCounts
  rw [Line.checkIdleGap_eq_idle]
  exact (Line.hear_context _ _).trans (l.endShifter_context s)

/-- After the end of what the shifter drives, the instants of a line send nothing where there is nothing to send. -/
theorem Line.endCounts_sends (h : (l.endShifter s).startsNothing s) : (l.endCounts s).sends = (l.endShifter s).sends := by
  unfold Line.endCounts
  rw [Line.checkIdleGap_eq_idle]
  exact Line.hear_sends h

theorem Line.endShifter_of_sending (h : l.sentOut = false) : l.endShifter s = l := by
  simp [Line.endShifter, h]

/-! ### A step between commands -/

/-- STANDBY is entered at the instant that the clock has carried out untold (R160). -/
def State.entersStandby (s : State) : Prop :=
  s.power = .standbyEntry ∧ (∀ m, ((s.line m).endCounts s).drained = true) ∧ s.mem = none

theorem State.endLines_line (s : State) (n : LineNo) : s.endLines.line n = (s.line n).endCounts s := by
  unfold State.endLines
  split
  · rw [State.endDoze_line, State.line_onLines]
  · rw [State.line_onLines]

/-- The instants of the lines change nothing of the state but the lines and a doze (R159). -/
theorem State.endLines_eq (s : State) : s.endLines =
    { s with
      lines := s.endLines.lines
      power := s.endLines.power
      req := s.endLines.req
      idleBeats := s.endLines.idleBeats } := by
  unfold State.endLines State.onLines
  split
  · rw [State.endDoze_eq]
  · rfl

theorem State.endLines_power (s : State) :
    s.endLines.power = s.power ∨ s.power = .doze ∧ s.endLines.power = .active := by
  unfold State.endLines
  split
  · rw [State.endDoze_eq]
    by_cases h : s.power = .doze
    · exact .inr ⟨h, if_pos h⟩
    · exact .inl (if_neg h)
  · exact .inl rfl

theorem State.endLines_timersSettled (h : s.timersSettled = true) : s.endLines.watchIdle.timersSettled = true := by
  simp only [State.timersSettled, Bool.and_eq_true, Bool.not_eq_true'] at h ⊢
  obtain ⟨⟨⟨⟨hholds, htimeout⟩, htick⟩, hresweep⟩, hguard⟩ := h
  have hreached (n : LineNo) : (s.endLines.watchIdle.line n).holdReached = (s.line n).holdReached := by
    have hline : s.endLines.watchIdle.line n = (s.line n).endCounts s := by
      rw [State.watchIdle_eq, ← s.endLines_line n]
      rfl
    have hcontext := (s.line n).endCounts_context s
    simp only [Line.context, Prod.mk.injEq] at hcontext
    rw [hline]
    exact hcontext.2.2.2.1
  refine ⟨⟨⟨⟨State.holdsDue_eq_false.2 fun n => ?_, ?_⟩, ?_⟩, ?_⟩, ?_⟩
  · rw [hreached]
    exact State.holdsDue_eq_false.1 hholds n
  all_goals rw [State.watchIdle_eq, State.endLines_eq]; assumption

/-- Once the instant is over, no line keeps a count apart. -/
theorem State.countBefore_of_settled (h : s.settled = true) (n : LineNo) : (s.line n).countBefore = none := by
  simp only [State.settled, Bool.and_eq_true, Bool.not_eq_true'] at h
  have hopen := h.2
  simp only [State.countsOpen, List.any_eq_false, List.mem_finRange, forall_const] at hopen
  simpa using hopen n

theorem State.enterAutoDoze_line (s : State) (n : LineNo) : s.enterAutoDoze.line n = s.line n := by
  unfold State.enterAutoDoze
  split
  · rw [State.enterDoze_eq]
    rfl
  · rfl

/-- An automatic doze is entered from ACTIVE, and leaves what STANDBY waits for alone. -/
theorem State.enterAutoDoze_standbyDue (s : State) : s.enterAutoDoze.standbyDue = s.standbyDue := by
  unfold State.enterAutoDoze
  split
  · next hdue =>
    have hactive := (State.autoDozeDue_iff.1 hdue).2.1
    rw [State.enterDoze_eq]
    simp only [State.standbyDue, hactive]
    split <;> rfl
  · rfl

theorem Line.clock_congr (h : t.customDivisor = s.customDivisor) (l : Line) : l.clock t = l.clock s := by
  have hformat (k : Line) : t.formatOf k = s.formatOf k := by simp only [State.formatOf, h]
  simp only [Line.clock, hformat]

/-- A step between commands, within a beat, on any line: the instants that have come, then one clock period unless they
let STANDBY be entered (log entry 3). -/
theorem step_line (hset : s.settled = true) (hpending : s.pending = []) (hshut : s.windowShut = false)
    (hbeat : s.beatClocks ≠ 7200) :
    ∃ u, step s = .next u ∧ (s.entersStandby → ∀ n, u.line n = ((s.line n).endCounts s).freeze) ∧
      (¬s.entersStandby → ∀ n, u.line n = ((s.line n).endCounts s).clock s) := by
  have hawake : s.power ≠ .waking := fun hp => by simp [State.windowShut, hp] at hshut
  have hruns : s.clockRuns = true := by simp [State.clockRuns, hshut]
  refine ⟨s.clockTick.watchIdle, by rw [step_of_idle hpending, idle, command_settled hset], ?_⟩
  have hcounts : s.endCounts = s.untold State.endLines := by
    rw [State.endCounts, State.endSettle_of_awake hawake, State.endBeat_of_within hbeat, if_pos hruns]
  obtain ⟨w, hw⟩ : ∃ w, w = s.endLines.watchIdle := ⟨_, rfl⟩
  have hfields : w = { s with
      lines := w.lines, power := w.power, req := w.req, idleBeats := w.idleBeats } := by
    rw [hw, State.watchIdle_eq, State.endLines_eq]
  have hpower : w.power = s.power ∨ s.power = .doze ∧ w.power = .active := by
    have hsame : w.power = s.endLines.power := by rw [hw, State.watchIdle_eq]
    rw [hsame]
    exact s.endLines_power
  have hline (n : LineNo) : w.line n = (s.line n).endCounts s := by
    rw [hw, ← s.endLines_line, State.watchIdle_eq]
    rfl
  have hinstant : s.endCounts = w.enterAutoDoze.enterStandby.endInstant := by
    rw [hcounts, State.untold, ← hw, State.finishInstant, State.finishTimers_of_timersSettled]
    rw [hw]
    exact State.endLines_timersSettled (State.timersSettled_of_settled hset)
  have hdue : w.enterAutoDoze.standbyDue = true ↔ s.entersStandby := by
    rw [State.enterAutoDoze_standbyDue]
    have hmem : w.mem = s.mem := by rw [hfields]
    have hentry : w.power = .standbyEntry ↔ s.power = .standbyEntry := by
      rcases hpower with h | ⟨h1, h2⟩
      · rw [h]
      · simp [h1, h2]
    simp only [State.standbyDue, State.entersStandby, State.allDrained, hline, hmem, Bool.and_eq_true, beq_iff_eq,
      hentry, List.all_eq_true, List.mem_finRange, forall_const, Option.isNone_iff_eq_none, and_assoc]
  have hclosed (k : Line) (n : LineNo) (hk : k.context = ((s.line n).endCounts s).context) : k.closeCount = k := by
    rw [Line.endCounts_context] at hk
    simp only [Line.context, Prod.mk.injEq] at hk
    have hnone : k.countBefore = none := hk.2.2.2.2.trans (State.countBefore_of_settled hset n)
    rw [Line.closeCount, ← hnone]
  have hclock (m : LineNo) (x : State) : x.watchIdle.line m = x.line m := by
    rw [State.watchIdle_eq]
    rfl
  refine ⟨fun h n => ?_, fun h n => ?_⟩
  · have hstandby : s.endCounts.power = .standby := by
      rw [hinstant, State.endInstant_eq, State.enterStandby_eq, if_pos (hdue.2 h)]
    have hstopped : s.endCounts.countClock = s.endCounts := by simp only [State.countClock, hstandby]
    rw [hclock, State.clockTick, hstopped, hinstant, State.endInstant_line, State.enterStandby_line,
      if_pos (hdue.2 h), State.enterAutoDoze_line, hline]
    refine hclosed _ n ?_
    rw [Line.freeze_eq]
    rfl
  · have hstays : w.enterAutoDoze.enterStandby = w.enterAutoDoze := by
      rw [State.enterStandby, if_neg fun hd => h (hdue.1 hd)]
    have hlines (m : LineNo) : s.endCounts.line m = (s.line m).endCounts s := by
      rw [hinstant, hstays, State.endInstant_line, State.enterAutoDoze_line, hline]
      exact hclosed _ m rfl
    have hdivisor : s.endCounts.customDivisor = s.customDivisor := by
      rw [hinstant, hstays, State.endInstant_eq]
      unfold State.enterAutoDoze
      rw [State.enterDoze_eq]
      split <;> rw [hfields]
    have hopen : s.endCounts.windowShut = false := by
      have hwopen : w.windowShut = false := by
        rcases hpower with hp | ⟨-, hp⟩
        · rw [State.windowShut, hp]
          exact hshut
        · simp [State.windowShut, hp]
      rw [hinstant, hstays, State.endInstant_eq]
      unfold State.enterAutoDoze
      rw [State.enterDoze_eq]
      split
      · simp only [State.windowShut]
        split <;> rfl
      · exact hwopen
    rw [hclock, State.clockTick, State.countClock_of_runs hopen]
    change (s.endCounts.onLines fun _ l => l.clock s.endCounts).line n = _
    rw [State.line_onLines, hlines, Line.clock_congr hdivisor]

end Sys2Proof.Machine
end

section
/-! The end of what the shifter sends (R55, R105, R121 to R123). -/

namespace Sys2Proof.Machine

variable {s t u : State} {l k : Line} {n : LineNo} {f : State → State}

/-! ### SHIFTER_EMPTY -/

/-- A hold timer that stands at 0 follows nothing. -/
theorem Line.tendHoldTimer_of_zero (l : Line) (hcount : l.holdCount = 0) (hstopped : l.holdStopped = false) :
    l.tendHoldTimer = l := by
  unfold Line.tendHoldTimer
  split
  · rfl
  · rw [← hcount, ← hstopped]

/-- The line when all that was left of what it sent has gone out (R55, R121, R122). -/
def Line.goneOut (l : Line) (t : Transmission) (phase : TxPhase) : Line :=
  { l with shifter := .empty, txCrc := t.rest.foldl pieceCrc l.txCrc, txPhase := phase }

theorem Line.shifterEnds_of_sending {x : Transmission} (h : l.shifter = .sending x) :
    l.shifterEnds s = Line.tend s (l.goneOut x (l.phaseAfter x.what (s.seq == .quiesced))) := by
  unfold Line.shifterEnds
  rw [h]
  rfl

/-- The end of a transmission may not be told yet: it is, or goes on to be, on the loopback route, and has not lasted its
time (log entry 40). -/
theorem Line.endTold_of_sending {x : Transmission} (h : l.shifter = .sending x) :
    l.endTold = false ↔ (x.loop = true ∨ (x.rest ≠ [] ∧ setLoop l.setting = true)) ∧
      (x.rest ≠ [] ∨ x.clocks < characterClocks x.format) := by
  simp only [Line.endTold, Line.sendsLooped, Line.sentOut, Shifter.looped, h]
  cases x.rest <;> cases x.loop <;> simp

/-- SHIFTER_EMPTY where the clock runs is what its row tells of the line. -/
theorem leads_shifterEmpty (hopen : s.open = true) (n : LineNo) :
    Leads (exec (.shifterEmpty n) s) (s.setLine n ((s.line n).tellEmpty s)) := by
  obtain ⟨hset, hshut⟩ := (State.open_iff s).1 hopen
  rw [exec_shifterEmpty]
  exact leads_command hset (if_pos (by simp [State.clockRuns, hshut]))

/-- Where the row changes nothing of the line, it changes nothing. -/
theorem leads_shifterEmpty_self (hopen : s.open = true) (h : (s.line n).tellEmpty s = s.line n) :
    Leads (exec (.shifterEmpty n) s) s := by
  have hleads := leads_shifterEmpty hopen n
  rwa [h, State.setLine_self] at hleads

section
variable {x : Transmission} (hrest : l.atRest s) (hx : l.shifter = .sending x)

/-- A line at rest whose hold timer does not run has it at 0. -/
theorem Line.holdTimer_of_rest (hrest : l.atRest s) (h : l.inHold = false) : l.holdCount = 0 ∧ l.holdStopped = false :=
  (Line.atRest_iff.1 hrest).2 (by simp [Line.holdTimed, h])

include hrest

/-- With nothing to start, the shifter stays empty (R55, R105). -/
theorem Line.tend_goneOut_of_calm {phase : TxPhase} (h : (l.goneOut x phase).calm s) :
    Line.tend s (l.goneOut x phase) = l.goneOut x phase :=
  Line.tend_eq_self h (Line.atRest_iff.1 hrest).2

/-- An owed abort pair goes first (R122). -/
theorem Line.tend_goneOut_abort {phase : TxPhase} (hhold : l.inHold = false) (ha : l.abortPending = true) :
    Line.tend s (l.goneOut x phase) =
      { l.goneOut x .abort with
        abortPending := false
        shifter := l.starting .abortPair l.escapeChar [.plain l.markChar] (s.formatOf l) } := by
  obtain ⟨hzero, hstopped⟩ := Line.holdTimer_of_rest hrest hhold
  rw [Line.tend_abort (l := l.goneOut x phase) rfl hhold ha, Line.sendAbort_eq,
    Line.tendHoldTimer_of_zero _ (by exact hzero) (by exact hstopped)]
  rfl

/-- The payload phase without its next payload byte sends an abort pair and raises UNDERRUN_DUE (R123). -/
theorem Line.tend_goneOut_underrun (hquiesced : s.seq ≠ .quiesced) (hhold : l.inHold = false)
    (ha : l.abortPending = false) (hsource : ∀ h, l.holding = some h → h.source ≠ .order) :
    Line.tend s (l.goneOut x .payload) =
      { l.goneOut x .abort with
        underrunDue := true
        shifter := l.starting .abortPair l.escapeChar [.plain l.markChar] (s.formatOf l) } := by
  obtain ⟨hzero, hstopped⟩ := Line.holdTimer_of_rest hrest hhold
  have hheld : l.payloadHeld = false := by
    unfold Line.payloadHeld
    split
    · next h hh => simpa using hsource h hh
    · rfl
  have hunder : (l.goneOut x .payload).underruns (s.seq == .quiesced) = true := by
    change (true && !l.payloadHeld && !(s.seq == .quiesced)) = true
    simp [hheld, hquiesced]
  rw [Line.tend_underrun (l := l.goneOut x .payload) rfl hhold ha hunder, Line.sendAbort_eq,
    Line.tendHoldTimer_of_zero _ (by exact hzero) (by exact hstopped)]
  simp only [Line.goneOut, ha]
  rfl

/-- A byte in holding that is no payload byte of a framed line enters as one character (R55). -/
theorem Line.tend_goneOut_character {phase : TxPhase} {h : Holding} (hphase : phase ≠ .payload)
    (hhold : l.inHold = false) (ha : l.abortPending = false) (hh : l.holding = some h)
    (hplain : l.framed = false ∨ h.source ≠ .order) :
    Line.tend s (l.goneOut x phase) =
      { l.goneOut x phase with
        holding := none
        ownByte := false
        shifter := l.starting .character h.byte [] (s.formatOf l) } := by
  obtain ⟨hzero, hstopped⟩ := Line.holdTimer_of_rest hrest hhold
  have hnot : ((l.goneOut x phase).framed && h.source == .order) = false := by
    change (l.framed && h.source == .order) = false
    rcases hplain with h | h <;> simp [h]
  rw [Line.tend_holding (l := l.goneOut x phase) rfl hhold ha (Line.underruns_of_phase hphase) hh, hnot,
    if_neg Bool.false_ne_true, Line.sendCharacter_eq, Line.tendHoldTimer_of_zero _ (by exact hzero) (by exact hstopped)]
  rfl

/-- A payload byte of a framed line enters as its expanded sequence (R121). -/
theorem Line.tend_goneOut_payload {phase : TxPhase} {h : Holding} (hhold : l.inHold = false)
    (ha : l.abortPending = false) (hh : l.holding = some h) (hframed : l.framed = true) (hsource : h.source = .order) :
    Line.tend s (l.goneOut x phase) = (l.goneOut x phase).sendPayload (s.formatOf l) h := by
  obtain ⟨hzero, hstopped⟩ := Line.holdTimer_of_rest hrest hhold
  have hheld : (l.goneOut x phase).underruns (s.seq == .quiesced) = false := by
    have hp : (l.goneOut x phase).payloadHeld = true := by
      change l.payloadHeld = true
      simp [Line.payloadHeld, hh, hsource]
    simp [Line.underruns, hp]
  have hpayload : ((l.goneOut x phase).framed && h.source == .order) = true := by
    change (l.framed && h.source == .order) = true
    simp [hframed, hsource]
  rw [Line.tend_holding (l := l.goneOut x phase) rfl hhold ha hheld hh, hpayload]
  rw [if_pos rfl]
  cases hfirst : h.first with
  | true =>
    rw [Line.sendPayload_first _ _ hfirst, Line.tendHoldTimer_of_zero _ (by exact hzero) (by exact hstopped)]
    exact (Line.sendPayload_first _ _ hfirst).symm
  | false =>
    rw [Line.sendPayload_next _ _ hfirst, Line.tendHoldTimer_of_zero _ (by exact hzero) (by exact hstopped)]
    exact (Line.sendPayload_next _ _ hfirst).symm

end

/-- SHIFTER_EMPTY of a transmission on a line at rest, told in its time, by what the transmitter has next. -/
theorem leads_shifterEmpty_sending {x : Transmission} (hopen : s.open = true) (hx : (s.line n).shifter = .sending x)
    (htold : (s.line n).endTold = true) : Leads (exec (.shifterEmpty n) s)
      (s.setLine n (Line.tend s ((s.line n).goneOut x ((s.line n).phaseAfter x.what (s.seq == .quiesced))))) := by
  have hleads := leads_shifterEmpty hopen n
  rwa [Line.tellEmpty, if_pos htold, Line.shifterEnds_of_sending hx] at hleads

/-! ### The shifter between commands -/

/-- What a piece stands for depends on the frame characters and the CRC register only. -/
theorem Line.sendPieces_sends (h : k.sends = l.sends) (hc : k.context = l.context) (what : Sending) (g : Format)
    (ps : List Piece) : (k.sendPieces what g ps).sends = (l.sendPieces what g ps).sends := by
  cases ps with
  | nil => exact h
  | cons p ps =>
    simp only [Line.sends, Prod.mk.injEq] at h
    simp only [Line.context, Prod.mk.injEq] at hc
    obtain ⟨-, hphase, hcrc, hholding, habort⟩ := h
    obtain ⟨hsetting, hmark, hesc, -, -⟩ := hc
    have hchars : k.pieceChars p = l.pieceChars p := by
      cases p <;> simp only [Line.pieceChars, hmark, hesc, hcrc]
    simp only [Line.sendPieces, Line.sends, hphase, hcrc, hholding, habort, hsetting, hchars]

/-- What a clock period makes of the shifter depends on what it sends and on the frame characters. -/
theorem Line.clockShifter_sends (h : k.sends = l.sends) (hc : k.context = l.context) (g : Format) :
    (k.clockShifter g).sends = (l.clockShifter g).sends := by
  have hshifter : k.shifter = l.shifter := congrArg Prod.fst h
  have hrest : (k.sends).2 = (l.sends).2 := congrArg Prod.snd h
  cases hx : l.shifter with
  | empty => rw [Line.clockShifter_of_empty g hx, Line.clockShifter_of_empty g (hshifter.trans hx), h]
  | brk times g' clocks loop =>
    rw [Line.clockShifter_of_brk g hx, Line.clockShifter_of_brk g (hshifter.trans hx)]
    exact congrArg (Prod.mk _) hrest
  | brkMark g' clocks loop =>
    rw [Line.clockShifter_of_brkMark g hx, Line.clockShifter_of_brkMark g (hshifter.trans hx)]
    exact congrArg (Prod.mk _) hrest
  | sending x =>
    by_cases hwithin : x.clocks + 1 < characterClocks x.format ∨ x.rest = []
    · rw [Line.clockShifter_of_within g hx hwithin, Line.clockShifter_of_within g (hshifter.trans hx) hwithin]
      exact congrArg (Prod.mk _) hrest
    · obtain ⟨hclocks, hnil⟩ := not_or.1 hwithin
      rw [Line.clockShifter_of_end g hx (by omega) hnil, Line.clockShifter_of_end g (hshifter.trans hx) (by omega) hnil]
      exact Line.sendPieces_sends h hc _ _ _

/-- A clock period moves on what the shifter sends, whatever the receiver and the idle-gap timer do. -/
theorem Line.clock_sends (s : State) (l : Line) : (l.clock s).sends = (l.clockShifter (s.formatOf l)).sends := by
  unfold Line.clock
  rw [Line.clockIdle_eq]
  refine Line.clockShifter_sends ?_ ?_ _ <;> rw [Line.clockReceiver_eq] <;> rfl

theorem Line.freeze_sends (l : Line) : l.freeze.sends = l.sends := by
  rw [Line.freeze_eq]
  rfl

section
variable (hopen : s.open = true) (hpending : s.pending = []) (hbeat : s.beatClocks ≠ 7200) (hstep : step s = .next u)
include hopen hpending hbeat hstep

/-- A step between commands on a line whose transmitter starts nothing at the instant: STANDBY, or one clock period. -/
theorem step_sends (h : ((s.line n).endShifter s).startsNothing s) :
    ∃ k : Line, k.sends = ((s.line n).endShifter s).sends ∧ k.context = (s.line n).context ∧
      (u.line n = k.freeze ∧ k.drained = true ∨ u.line n = k.clock s) := by
  obtain ⟨hset, hshut⟩ := (State.open_iff s).1 hopen
  obtain ⟨u', hstep', hentry, hclock⟩ := step_line hset hpending hshut hbeat
  cases hstep.symm.trans hstep'
  refine ⟨(s.line n).endCounts s, Line.endCounts_sends h, Line.endCounts_context _ _, ?_⟩
  by_cases he : s.entersStandby
  · exact .inl ⟨hentry he n, he.2.1 n⟩
  · exact .inr (hclock he n)

/-- Where the shifter has not come to the end of what it drives, it goes on by one clock period. -/
theorem step_busy (hbusy : (s.line n).shifter ≠ .empty) (hend : (s.line n).sentOut = false) :
    (u.line n).sends = ((s.line n).clockShifter (s.formatOf (s.line n))).sends := by
  have hsame := Line.endShifter_of_sending (s := s) hend
  obtain ⟨k, hsends, hcontext, hline⟩ := step_sends (n := n) hopen hpending hbeat hstep
    (by rw [hsame]; exact .inl hbusy)
  rw [hsame] at hsends
  rcases hline with ⟨-, hdrained⟩ | hline
  · have hk : k.shifter = (s.line n).shifter := congrArg Prod.fst hsends
    exact absurd (hk.symm.trans (Line.shifter_of_drained hdrained)) hbusy
  · have hformat : s.formatOf k = s.formatOf (s.line n) := by
      have hsetting : k.setting = (s.line n).setting := congrArg Prod.fst hcontext
      simp only [State.formatOf, hsetting]
    rw [hline, Line.clock_sends, hformat, Line.clockShifter_sends hsends hcontext]

/-- Where what the shifter drove has gone out and the transmitter has nothing to start, the shifter stays empty. -/
theorem step_emptied {k : Line} (hk : (s.line n).endShifter s = Line.tend s k) (h : k.startsNothing s)
    (hempty : k.shifter = .empty) : (u.line n).sends = k.sends := by
  have hsends := Line.tend_sends h
  rw [← hk] at hsends
  obtain ⟨k', hk', -, hline⟩ := step_sends (n := n) hopen hpending hbeat hstep (Line.startsNothing_congr hsends h)
  rw [← hsends, ← hk']
  rcases hline with ⟨hline, -⟩ | hline
  · rw [hline, Line.freeze_sends]
  · rw [hline, Line.clock_sends,
      Line.clockShifter_of_empty _ ((congrArg Prod.fst (hk'.trans hsends)).trans hempty)]

end

/-- The bit period of mark after a break has lasted its time (R56). -/
theorem Line.sentOut_of_brkMark {g : Format} {clocks : Nat} {loop : Bool} (h : l.shifter = .brkMark g clocks loop) :
    l.sentOut = decide (g.divisor * 16 ≤ clocks) := by
  rw [Line.sentOut, h]
  rfl

/-- The last character of a transmission has lasted its time (R55). -/
theorem Line.sentOut_of_sending {x : Transmission} (h : l.shifter = .sending x) :
    l.sentOut = (x.rest.isEmpty && decide (characterClocks x.format ≤ x.clocks)) := by
  rw [Line.sentOut, h]

/-! ### The statement -/

/-- The line of a SHIFTER_EMPTY that finds a transmission, by the phase that follows it. -/
theorem Line.phaseAfter_of_ne {what : Sending} (h : (s.seq == .quiesced) = false) :
    l.phaseAfter what (s.seq == .quiesced) =
      match what with
      | .character => l.txPhase
      | .frame false => .payload
      | .frame true | .abortPair => .idle := by
  rw [h]
  cases what with
  | character | abortPair => rfl
  | frame last => cases last <;> rfl

/-- Settles O54: by what the shifter drives and, for a transmission, by what the transmitter has next. -/
theorem shifterTakesTheNextByteOrEmpties : Obligations.ShifterTakesTheNextByteOrEmpties := by
  unfold Obligations.ShifterTakesTheNextByteOrEmpties
  intro n s hopen l f
  refine ⟨fun hrest x hx => ?_, fun hrest g clocks loop hg => ?_, fun hnone => ?_,
    fun hpending hbeat g clocks loop hg => ?_, fun hpending hbeat x hx => ?_⟩
  · intro gone r early
    have hearly : l.endTold = false ↔ early := Line.endTold_of_sending hx
    refine ⟨fun he => ?_, fun hne => ?_⟩
    · refine leads_shifterEmpty_self hopen ?_
      rw [Line.tellEmpty, if_neg (by rw [hearly.2 he]; decide)]
    have htold : l.endTold = true := by
      cases hb : l.endTold with
      | true => rfl
      | false => exact absurd (hearly.1 hb) hne
    have hleads := leads_shifterEmpty_sending hopen hx htold
    change Leads r (s.setLine n (Line.tend s (l.goneOut x (l.phaseAfter x.what (s.seq == .quiesced))))) at hleads
    clear_value r
    have hfollows {phase : TxPhase} {k : Line} (hphase : l.phaseAfter x.what (s.seq == .quiesced) = phase)
        (hk : Line.tend s (l.goneOut x phase) = k) : Leads r (s.setLine n k) := by
      rwa [hphase, hk] at hleads
    have hq (h : s.seq ≠ .quiesced) : (s.seq == .quiesced) = false := by simpa using h
    refine ⟨fun hq ha hh => ?_, fun hne hhold => ?_, fun hne hhold ha => ?_, fun hne hhold ha hwhat hsource => ?_,
      fun hne hhold ha h hh hframed hsource => ?_, fun hne ha hwhat hphase => ⟨fun hh => ?_, fun h hh hhold hplain => ?_⟩,
      fun ha hwhat hh => ?_⟩
    · refine hfollows (phase := .idle) (by simp [Line.phaseAfter, hq]) (Line.tend_goneOut_of_calm hrest ?_)
      exact .inr (.inr ⟨ha, Line.underruns_of_phase (by exact nofun), hh⟩)
    · have hphase := Line.phaseAfter_of_ne (l := l) (what := x.what) (hq hne)
      have hcalm := hfollows rfl (Line.tend_goneOut_of_calm hrest (.inr (.inl hhold)))
      rw [hphase] at hcalm
      exact hcalm
    · exact hfollows rfl (Line.tend_goneOut_abort hrest hhold ha)
    · refine hfollows (phase := .payload) ?_ (Line.tend_goneOut_underrun hrest hne hhold ha hsource)
      rw [Line.phaseAfter_of_ne (hq hne)]
      rcases hwhat with h | ⟨h, hp⟩ <;> rw [h]
      exact hp
    · intro trailer entered
      have hpayload := Line.tend_goneOut_payload (x := x) (phase := l.phaseAfter x.what (s.seq == .quiesced)) hrest hhold
        ha hh hframed hsource
      refine ⟨fun hfirst => ?_, fun hfirst => ?_⟩
      · exact hfollows rfl (hpayload.trans (Line.sendPayload_first _ _ hfirst))
      · exact hfollows rfl (hpayload.trans (Line.sendPayload_next _ _ hfirst))
    · refine hfollows (phase := l.txPhase) ?_ (Line.tend_goneOut_of_calm hrest ?_)
      · rw [Line.phaseAfter_of_ne (hq hne), hwhat]
      · exact .inr (.inr ⟨ha, Line.underruns_of_phase hphase, hh⟩)
    · refine hfollows (phase := l.txPhase) ?_ (Line.tend_goneOut_character hrest hphase hhold ha hh hplain)
      rw [Line.phaseAfter_of_ne (hq hne), hwhat]
    · refine hfollows (phase := .idle) ?_ (Line.tend_goneOut_of_calm hrest ?_)
      · unfold Line.phaseAfter
        rcases hwhat with h | h <;> rw [h] <;> exact ite_self _
      · exact .inr (.inr ⟨ha, Line.underruns_of_phase (by exact nofun), hh⟩)
  · have hsent : l.endTold = true ↔ loop = false ∨ g.divisor * 16 ≤ clocks := by
      simp only [Line.endTold, Line.sendsLooped, Line.sentOut_of_brkMark hg, Shifter.looped, hg]
      cases loop <;> simp
    refine ⟨fun hloop hclocks => leads_shifterEmpty_self hopen ?_, fun htold hh ha hphase => ?_⟩
    · rw [Line.tellEmpty, if_neg]
      rw [hsent, hloop]
      rintro (h | h)
      · exact absurd h (by decide)
      · omega
    · have hleads := leads_shifterEmpty hopen n
      have hcalm : Line.tend s { l with shifter := .empty } = { l with shifter := .empty } :=
        Line.tend_eq_self (.inr (.inr ⟨ha, Line.underruns_of_phase hphase, hh⟩)) (Line.atRest_iff.1 hrest).2
      have hends : l.shifterEnds s = Line.tend s { l with shifter := .empty } := by
        unfold Line.shifterEnds
        rw [hg]
      rw [Line.tellEmpty, if_pos (hsent.2 htold), hends, hcalm] at hleads
      exact hleads
  · refine leads_shifterEmpty_self hopen ?_
    have hends : l.shifterEnds s = l := by
      unfold Line.shifterEnds
      rcases hnone with h | ⟨_, _, _, _, h⟩ <;> rw [h]
    rw [Line.tellEmpty, hends, ite_self]
  · obtain ⟨hset, hshut⟩ := (State.open_iff s).1 hopen
    obtain ⟨u, hstep, -⟩ := step_line hset hpending hshut hbeat
    have hout := Line.sentOut_of_brkMark hg
    refine ⟨u, hstep, fun hclocks => ?_, fun hclocks hh ha hphase => ?_⟩
    · have hsends := step_busy (n := n) hopen hpending hbeat hstep (by rw [hg]; exact nofun)
        (by rw [hout]; simpa using hclocks)
      rw [Line.clockShifter_of_brkMark _ hg] at hsends
      have hmin : min (bitClocks g) (clocks + 1) = clocks + 1 := Nat.min_eq_right hclocks
      rw [hmin] at hsends
      exact congrArg Prod.fst hsends
    · have hends : l.endShifter s = Line.tend s { l with shifter := .empty } := by
        rw [Line.endShifter, if_pos (by rw [hout]; simpa using hclocks), Line.shifterEnds, hg]
      exact congrArg Prod.fst (step_emptied hopen hpending hbeat hstep hends
        (.inr ⟨ha, Line.underruns_of_phase hphase, hh⟩) rfl)
  · obtain ⟨hset, hshut⟩ := (State.open_iff s).1 hopen
    obtain ⟨u, hstep, -⟩ := step_line hset hpending hshut hbeat
    have hout := Line.sentOut_of_sending hx
    refine ⟨u, hstep, fun hnil hclocks hh ha hwhat => ?_, fun hclocks hmore => ?_, ?_⟩
    · have hends : l.endShifter s = Line.tend s (l.goneOut x (l.phaseAfter x.what (s.seq == .quiesced))) := by
        rw [Line.endShifter, if_pos (by rw [hout, hnil]; simpa using hclocks), hx, ← Line.shifterEnds_of_sending hx]
      have hphase : l.phaseAfter x.what (s.seq == .quiesced) =
          if x.what = .character ∧ s.seq ≠ .quiesced then l.txPhase else .idle := by
        unfold Line.phaseAfter
        rcases hwhat with h | h | ⟨h, -⟩ <;> by_cases hq : s.seq = .quiesced <;> simp [h, hq]
      have hnot : l.phaseAfter x.what (s.seq == .quiesced) ≠ .payload := by
        rw [hphase]
        split
        · next h =>
          rcases hwhat with h' | h' | ⟨-, h'⟩
          · exact absurd (h.1.symm.trans h') (by decide)
          · exact absurd (h.1.symm.trans h') (by decide)
          · exact h'
        · exact nofun
      have hsends := step_emptied hopen hpending hbeat hstep hends
        (.inr ⟨ha, Line.underruns_of_phase hnot, hh⟩) rfl
      exact ⟨congrArg Prod.fst hsends, (congrArg (fun p => p.2.1) hsends).trans hphase⟩
    · have hsends := step_busy (n := n) hopen hpending hbeat hstep (by rw [hx]; exact nofun)
        (by rw [hout]; simp [Nat.not_le.2 hclocks])
      rw [Line.clockShifter_of_within _ hx hmore.symm] at hsends
      exact ⟨congrArg (fun p => p.2.1) hsends, congrArg (fun p => p.2.2.1) hsends, congrArg Prod.fst hsends⟩
    · intro p more hmore hclocks chars format
      have hsends := step_busy (n := n) hopen hpending hbeat hstep (by rw [hx]; exact nofun)
        (by rw [hout, hmore]; rfl)
      rw [Line.clockShifter_of_end _ hx hclocks (by rw [hmore]; exact nofun), hmore] at hsends
      have hchars : l.pieceChars p = chars := by cases p <;> rfl
      have hformat : x.nextFormat (s.formatOf l) = format := by
        dsimp only [format]
        unfold Transmission.nextFormat
        cases x.what <;> rfl
      refine ⟨?_, ?_, ?_⟩
      · rw [← hchars, ← hformat]
        exact congrArg Prod.fst hsends
      · refine (congrArg (fun p => p.2.2.1) hsends).trans ?_
        cases p <;> rfl
      · refine (congrArg (fun p => p.2.1) hsends).trans ?_
        cases p <;> rfl

end Sys2Proof.Machine
end

section
/-! The beat boundary (R2, R57, R58, R62): the counts, the SENSE samples, and the transmitter where hold state ends. -/

namespace Sys2Proof.Machine

variable {s t u : State} {l k : Line} {n : LineNo} {f : State → State}

/-! ### One line at a beat boundary -/

/-- The level that this boundary samples is accepted (R57). -/
theorem Line.acceptsSense_iff (pin : Bool) : l.acceptsSense pin = true ↔
    l.sensePrev = .sample (l.senseSource pin) ∧ l.senseSource pin ≠ l.sense := by
  unfold Line.acceptsSense
  cases l.sensePrev with
  | afterReset | discarded => simp
  | sample p =>
    simp only [Bool.and_eq_true, beq_iff_eq, bne_iff_ne, SensePrev.sample.injEq]
    exact and_congr_left' eq_comm

/-- The SENSE sample leaves the transmitter, the orders and the timers alone. -/
theorem Line.sampleSense_eq (l : Line) (pin : Bool) : l.sampleSense pin =
    { l with
      sensePrev := .sample (l.senseSource pin)
      sense := (l.sampleSense pin).sense
      lastReported := (l.sampleSense pin).lastReported
      changeCount := (l.sampleSense pin).changeCount
      countBefore := (l.sampleSense pin).countBefore
      statusPending := (l.sampleSense pin).statusPending } := by
  unfold Line.sampleSense
  split
  · rfl
  · rfl
  · split <;> rfl

/-- What the SENSE sample changes, by the previous sample (R57, R58). -/
theorem Line.sampleSense_afterReset (pin : Bool) (h : l.sensePrev = .afterReset) : l.sampleSense pin =
    { l with
      sensePrev := .sample (l.senseSource pin), sense := l.senseSource pin, lastReported := l.senseSource pin } := by
  unfold Line.sampleSense
  rw [h]

theorem Line.sampleSense_accepted (pin : Bool) (h : l.acceptsSense pin = true) : l.sampleSense pin =
    { l with
      sensePrev := .sample (l.senseSource pin)
      sense := l.senseSource pin
      changeCount := min 255 (l.changeCount + 1)
      countBefore := some l.changeCount
      statusPending := true } := by
  have hprev := ((Line.acceptsSense_iff pin).1 h).1
  unfold Line.sampleSense
  rw [hprev]
  exact if_pos h

theorem Line.sampleSense_kept (pin : Bool) (h : l.acceptsSense pin = false) (hprev : l.sensePrev ≠ .afterReset) :
    l.sampleSense pin = { l with sensePrev := .sample (l.senseSource pin) } := by
  unfold Line.sampleSense
  split
  · next h0 => exact absurd h0 hprev
  · rfl
  · exact if_neg (ne_true_of_eq_false h)

/-- What the transmitter of a line holds, and what it has raised. -/
def Line.sending (l : Line) : Shifter × Option Holding × Bool × TxPhase × BitVec 16 × Bool × Bool :=
  (l.shifter, l.holding, l.ownByte, l.txPhase, l.txCrc, l.abortPending, l.underrunDue)

theorem Line.tendHoldTimer_sending (l : Line) : l.tendHoldTimer.sending = l.sending := by
  rw [Line.tendHoldTimer_eq]
  rfl

/-- The hold timer's own fields of a line that has been tended: 0 where its conditions do not hold (R62). -/
theorem Line.tend_hold (s : State) (l : Line) :
    ((Line.tend s l).holdTimed = false → (Line.tend s l).holdCount = 0 ∧ (Line.tend s l).holdStopped = false) ∧
      (l.inHold = true → l.holdTimed = true →
        (Line.tend s l).holdCount = l.holdCount ∧ (Line.tend s l).holdStopped = l.holdStopped) := by
  refine ⟨fun h => ?_, fun hin htimed => ?_⟩
  · rw [Line.tend, Line.tendHoldTimer_eq] at h ⊢
    have hsame : (l.feedShifter s).holdTimed = false := h
    simp [hsame]
  · rw [Line.tend_of_calm (.inr (.inl hin)), Line.tendHoldTimer_eq, htimed]
    exact ⟨rfl, rfl⟩

theorem Line.tend_inHold (s : State) (l : Line) : (Line.tend s l).inHold = l.inHold := by
  rw [Line.tend_eq]
  rfl

/-- `k` is `l` but for the fields that the hold count and the SENSE sample of a beat boundary change. -/
def Line.SampledFrom (l k : Line) : Prop :=
  k = { l with
    holdCount := k.holdCount
    holdStopped := k.holdStopped
    holdReached := k.holdReached
    sensePrev := k.sensePrev
    sense := k.sense
    lastReported := k.lastReported
    changeCount := k.changeCount
    countBefore := k.countBefore
    statusPending := k.statusPending }

theorem Line.sampledFrom_beat (l : Line) (pin : Bool) : l.SampledFrom (l.countHold.sampleSense pin) := by
  unfold Line.SampledFrom
  have h := Line.sampleSense_eq l.countHold pin
  generalize l.countHold.sampleSense pin = k at h ⊢
  rw [Line.countHold_eq] at h
  rw [h]

section
variable (hk : l.SampledFrom k)
include hk

/-- A transmitter that no hold state has released does nothing at a beat boundary (R104). -/
theorem Line.tend_sampled_kept (hrest : l.atRest s)
    (hno : ¬(l.shifter = .empty ∧ l.inHold = true ∧ k.inHold = false)) : (Line.tend s k).sending = l.sending := by
  have hsame : k.sending = l.sending := by rw [hk]; rfl
  have hcalm : k.calm s := by
    by_cases hshifter : l.shifter = .empty
    · by_cases hin : k.inHold = true
      · exact .inr (.inl hin)
      · have hout : l.inHold = false := by
          by_contra h
          exact hno ⟨hshifter, by simpa using h, by simpa using hin⟩
        rcases (Line.atRest_iff.1 hrest).1 with h | h | h
        · exact absurd hshifter h
        · exact absurd (hout.symm.trans h) (by decide)
        · rw [hk]
          exact .inr (.inr h)
    · rw [hk]
      exact .inl hshifter
  rw [Line.tend_of_calm hcalm, Line.tendHoldTimer_sending, hsame]

/-- With nothing to start, nothing starts (R55). -/
theorem Line.tend_sampled_nothing (ha : l.abortPending = false) (hu : l.underruns (s.seq == .quiesced) = false)
    (hh : l.holding = none) : (Line.tend s k).sending = l.sending := by
  have hcalm : k.calm s := by
    rw [hk]
    exact .inr (.inr ⟨ha, hu, hh⟩)
  rw [Line.tend_of_calm hcalm, Line.tendHoldTimer_sending, hk]
  rfl

variable (hshifter : l.shifter = .empty) (hout : k.inHold = false)
include hshifter hout

/-- An owed abort pair goes first (R122). -/
theorem Line.tend_sampled_abort (ha : l.abortPending = true) : (Line.tend s k).sending =
    (l.starting .abortPair l.escapeChar [.plain l.markChar] (s.formatOf l), l.holding, l.ownByte, .abort, l.txCrc, false,
      l.underrunDue) := by
  rw [Line.tend_abort (by rw [hk]; exact hshifter) hout (by rw [hk]; exact ha), Line.sendAbort_eq,
    Line.tendHoldTimer_sending, hk]
  rfl

/-- The payload phase without its next payload byte sends an abort pair and raises UNDERRUN_DUE (R123). -/
theorem Line.tend_sampled_underrun (ha : l.abortPending = false) (hu : l.underruns (s.seq == .quiesced) = true) :
    (Line.tend s k).sending =
      (l.starting .abortPair l.escapeChar [.plain l.markChar] (s.formatOf l), l.holding, l.ownByte, .abort, l.txCrc,
        false, true) := by
  rw [Line.tend_underrun (by rw [hk]; exact hshifter) hout (by rw [hk]; exact ha) (by rw [hk]; exact hu),
    Line.sendAbort_eq, Line.tendHoldTimer_sending, hk]
  rfl

/-- The byte in holding enters the shifter (R55, R121). -/
theorem Line.tend_sampled_holding (ha : l.abortPending = false) (hu : l.underruns (s.seq == .quiesced) = false)
    {h : Holding} (hh : l.holding = some h) : (Line.tend s k).sending =
      (if l.framed && h.source == .order then l.sendPayload (s.formatOf l) h
      else l.sendCharacter (s.formatOf l) h).sending := by
  rw [Line.tend_holding (by rw [hk]; exact hshifter) hout (by rw [hk]; exact ha) (by rw [hk]; exact hu)
    (by rw [hk]; exact hh), Line.tendHoldTimer_sending]
  have hframed : k.framed = l.framed := by rw [hk]; rfl
  have hformat : s.formatOf k = s.formatOf l := by rw [hk]; rfl
  rw [hframed, hformat]
  split
  · cases hfirst : h.first with
    | true => rw [Line.sendPayload_first _ _ hfirst, Line.sendPayload_first _ _ hfirst, hk]; rfl
    | false => rw [Line.sendPayload_next _ _ hfirst, Line.sendPayload_next _ _ hfirst, hk]; rfl
  · rw [Line.sendCharacter_eq, Line.sendCharacter_eq, hk]
    rfl

end

/-! ### The state at a beat boundary -/

theorem State.acceptsSense_iff (pins : BitVec 16) : s.acceptsSense pins = true ↔
    ∃ n : LineNo, (s.line n).sensePrev = .sample ((s.line n).senseSource (pins.getLsbD n.val)) ∧
      (s.line n).senseSource (pins.getLsbD n.val) ≠ (s.line n).sense := by
  simp only [State.acceptsSense, List.any_eq_true, List.mem_finRange, true_and, Line.acceptsSense_iff]

/-- A beat boundary where the clock runs, with what it does to a doze (R2, R159). -/
theorem State.beat_eq (h : s.windowShut = false) (pins : BitVec 16) : s.beat pins =
    { s.countBeat pins with
      power := if s.acceptsSense pins = true ∧ s.power = .doze then .active else s.power
      req := if s.acceptsSense pins = true ∧ s.power = .doze then .active else s.req
      idleBeats := if s.acceptsSense pins = true ∧ s.power = .doze then 0 else (s.countBeat pins).idleBeats
      dozeBarred := s.acceptsSense pins || s.dozeBarred } := by
  have hkept : (s.countBeat pins).power = s.power ∧ (s.countBeat pins).req = s.req ∧
      (s.countBeat pins).dozeBarred = s.dozeBarred := by
    obtain ⟨ls, -, heq⟩ := s.onLines_spec fun n l => l.beat s (pins.getLsbD n.val)
    rw [State.countBeat, heq]
    exact ⟨rfl, rfl, rfl⟩
  obtain ⟨hpower, hreq, hbarred⟩ := hkept
  unfold State.beat
  rw [if_pos (by simp [State.clockRuns, h]), ← hpower, ← hreq, ← hbarred]
  generalize s.countBeat pins = c
  cases hacc : s.acceptsSense pins with
  | false =>
    simp only [Bool.false_eq_true, if_false, false_and, Bool.false_or]
  | true =>
    simp only [if_true, true_and, Bool.true_or]
    rw [State.endDoze_eq]

theorem State.idleBeats_of_settled (h : s.settled = true) (hnot : s.watchedIdle = false) : s.idleBeats = 0 := by
  simp only [State.settled, Bool.and_eq_true, Bool.or_eq_true, beq_iff_eq] at h
  rcases h.1.1.2 with hw | hw
  · exact absurd (hnot.symm.trans hw) (by decide)
  · exact hw

/-- The fields that a beat boundary leaves of a state, but for its lines and its power state (R2). -/
theorem State.beat_watchIdle_eq (hset : s.settled = true) (h : s.windowShut = false) (pins : BitVec 16) :
    (s.beat pins).watchIdle =
      { s with
        lines := (s.beat pins).lines
        beatClocks := 0
        sensePins := pins
        mem := s.mem.map fun x => { x with beats := x.beats + 1 }
        events := s.events.map fun e => { e with age := min 255 (e.age + 1) }
        cadenceCount := if s.cadence = 0 then s.cadenceCount else s.cadenceCount + 1
        resweepCount :=
          if s.resweep ≠ 0 ∧ s.power = .active ∧ s.quiet = false then s.resweepCount + 1 else s.resweepCount
        guardCount :=
          if s.livenessEn = true ∧ s.guardRunning = true ∧ s.quiet = false then s.guardCount - 1 else s.guardCount
        power := (s.beat pins).power
        req := (s.beat pins).req
        idleBeats :=
          if s.watchedIdle = true ∧ (s.beat pins).watchedIdle = true then min 2 (s.idleBeats + 1) else 0
        dozeBarred := (s.beat pins).dozeBarred } := by
  obtain ⟨ls, -, heq⟩ := s.onLines_spec fun n l => l.beat s (pins.getLsbD n.val)
  have hresweep : (if s.resweepCounts then s.resweepCount + 1 else s.resweepCount) =
      if s.resweep ≠ 0 ∧ s.power = .active ∧ s.quiet = false then s.resweepCount + 1 else s.resweepCount :=
    if_congr (by simp [State.resweepCounts, and_assoc]) rfl rfl
  have hguard : (if s.guardCounts then s.guardCount - 1 else s.guardCount) =
      if s.livenessEn = true ∧ s.guardRunning = true ∧ s.quiet = false then s.guardCount - 1 else s.guardCount :=
    if_congr (by simp [State.guardCounts, and_assoc]) rfl rfl
  have hidle : (if (s.beat pins).watchedIdle then (s.beat pins).idleBeats else 0) =
      if s.watchedIdle = true ∧ (s.beat pins).watchedIdle = true then min 2 (s.idleBeats + 1) else 0 := by
    have hcount : (s.countBeat pins).idleBeats = if s.watchedIdle then min 2 (s.idleBeats + 1) else s.idleBeats := by
      rw [State.countBeat, heq]
    cases hw : s.watchedIdle with
    | true =>
      have hactive : s.power = .active := by
        simp only [State.watchedIdle, Bool.and_eq_true, beq_iff_eq] at hw
        exact hw.1.1.2
      have hkeeps : (s.beat pins).idleBeats = min 2 (s.idleBeats + 1) := by
        rw [State.beat_eq h, hcount, hw]
        exact if_neg fun hd => absurd (hactive.symm.trans hd.2) (by decide)
      rw [hkeeps]
      simp
    | false =>
      have hzero : (s.beat pins).idleBeats = 0 := by
        rw [State.beat_eq h, hcount, hw, State.idleBeats_of_settled hset hw]
        exact ite_self _
      rw [hzero, ite_self, if_neg (fun hd => absurd hd.1 (by decide))]
  rw [State.watchIdle_eq, hidle, ← hresweep, ← hguard]
  generalize hb : s.beat pins = b
  rw [State.beat_eq h, State.countBeat, heq] at hb
  subst hb
  rfl

/-- A line after a beat boundary: the hold count and the SENSE sample, then what the transmitter makes of them. -/
theorem State.beat_line (h : s.windowShut = false) (pins : BitVec 16) (n : LineNo) : (s.beat pins).line n =
    Line.tend s ((s.line n).countHold.sampleSense (pins.getLsbD n.val)) := by
  have hcount : (s.countBeat pins).line n = (s.line n).beat s (pins.getLsbD n.val) := by
    rw [← State.line_onLines s n fun n l => l.beat s (pins.getLsbD n.val)]
    obtain ⟨ls, -, heq⟩ := s.onLines_spec fun n l => l.beat s (pins.getLsbD n.val)
    rw [State.countBeat, heq]
    rfl
  rw [State.beat_eq h]
  exact hcount

/-- The counts of a hold timer that has not reached its limit before (R62). -/
theorem Line.holdCounts_iff : l.holdCounts = true ↔ l.inHold = true ∧ l.txOrder.isSome = true ∧ l.holding.isSome = true ∧
    setHoldLimit l.setting ≠ 0 ∧ l.holdStopped = false := by
  simp [Line.holdCounts, Line.holdTimed, Line.holdLimit, Config.beatsPerHoldUnit, and_assoc]

/-- Settles O56: the state's counts, then on each line the SENSE sample, the hold timer and the transmitter. -/
theorem beatBoundariesCountAndSample : Obligations.BeatBoundariesCountAndSample := by
  unfold Obligations.BeatBoundariesCountAndSample
  intro pins s hset
  refine ⟨fun hshut => ?_, fun hshut => ?_⟩
  · rw [exec_beatBoundary]
    exact leads_command hset (if_neg (by simp [State.clockRuns, hshut]))
  refine ⟨(s.beat pins).watchIdle, by rw [exec_beatBoundary]; exact command_settled hset, ?_⟩
  intro level accepted doze
  have hacc : s.acceptsSense pins = true ↔ ∃ n, accepted n := State.acceptsSense_iff pins
  have hwatch : (s.beat pins).watchIdle.watchedIdle = (s.beat pins).watchedIdle := by
    rw [State.watchIdle_eq]
    rfl
  have hfield : (s.beat pins).watchIdle.lines = (s.beat pins).lines ∧
      (s.beat pins).watchIdle.power = (s.beat pins).power ∧ (s.beat pins).watchIdle.req = (s.beat pins).req ∧
      (s.beat pins).watchIdle.dozeBarred = (s.beat pins).dozeBarred := by
    rw [State.watchIdle_eq]
    exact ⟨rfl, rfl, rfl, rfl⟩
  obtain ⟨hlines, hpower, hreq, hbarred⟩ := hfield
  have hline (n : LineNo) : (s.beat pins).watchIdle.line n =
      Line.tend s ((s.line n).countHold.sampleSense (pins.getLsbD n.val)) := by
    rw [← State.beat_line hshut, State.watchIdle_eq]
    rfl
  rw [hlines, hpower, hreq, hbarred, hwatch]
  refine ⟨State.beat_watchIdle_eq hset hshut pins, ?_, fun hd => ?_, fun hnd => ?_, fun n => ?_⟩
  · rw [State.beat_eq hshut, State.dozeBarred_of_settled hset, Bool.or_false]
    exact hacc
  · rw [State.beat_eq hshut]
    have hif : s.acceptsSense pins = true ∧ s.power = .doze := ⟨hacc.2 hd.2, hd.1⟩
    exact ⟨if_pos hif, if_pos hif⟩
  · rw [State.beat_eq hshut]
    have hif : ¬(s.acceptsSense pins = true ∧ s.power = .doze) := fun hd => hnd ⟨hd.2, hacc.1 hd.1⟩
    exact ⟨if_neg hif, if_neg hif⟩
  rw [hline]
  intro l l' counts
  obtain ⟨k, hk⟩ : ∃ k, k = l.countHold.sampleSense (pins.getLsbD n.val) := ⟨_, rfl⟩
  have hl' : l' = Line.tend s k := by rw [hk]
  have hfrom : l.SampledFrom k := hk ▸ l.sampledFrom_beat _
  have hreport : l'.sensePrev = k.sensePrev ∧ l'.sense = k.sense ∧ l'.lastReported = k.lastReported ∧
      l'.statusPending = k.statusPending ∧ l'.changeCount = k.changeCount ∧ l'.countBefore = k.countBefore ∧
      l'.holdReached = k.holdReached := by
    rw [hl', Line.tend_eq]
    exact ⟨rfl, rfl, rfl, rfl, rfl, rfl, rfl⟩
  obtain ⟨hprev', hsense', hlast', hpending', hchange', hbefore', hreached'⟩ := hreport
  have hprevious : l.countHold.sensePrev = l.sensePrev := by rw [Line.countHold_eq]
  have haccepts : l.countHold.acceptsSense (pins.getLsbD n.val) = true ↔ accepted n := by
    rw [Line.acceptsSense_iff, Line.countHold_eq]
    rfl
  have hlevel : l.countHold.senseSource (pins.getLsbD n.val) = level n := by
    rw [Line.countHold_eq]
    rfl
  have hcounts : l.holdCounts = true ↔ counts := Line.holdCounts_iff
  have hreached : l.holdReached = false := State.holdsDue_eq_false.1 (by
    simp only [State.settled, Bool.and_eq_true, Bool.not_eq_true'] at hset
    exact hset.1.1.1.1.1.1.1.1.1) n
  have hhold : k.holdCount = (if l.holdCounts then l.holdCount + 1 else l.holdCount) ∧
      k.holdStopped = (l.holdStopped || (l.holdCounts && decide (l.holdLimit ≤ l.holdCount + 1))) ∧
      k.holdReached = (l.holdReached || (l.holdCounts && decide (l.holdLimit ≤ l.holdCount + 1))) := by
    rw [hk, Line.sampleSense_eq, Line.countHold_eq]
    exact ⟨rfl, rfl, rfl⟩
  obtain ⟨hcount, hstop, hreach⟩ := hhold
  have hin : l'.inHold = k.inHold := by rw [hl', Line.tend_inHold]
  have htimer := Line.tend_hold s k
  rw [← hl'] at htimer
  obtain ⟨htimer0, htimer⟩ := htimer
  refine ⟨?_, fun hafter => ?_, fun hacc => ?_, fun hnot hafter => ?_, fun hc => ⟨?_, fun hin' hrest => ?_⟩,
    fun hnc => ⟨?_, fun hin' hrest => ?_⟩, fun hnone => ?_, ?_⟩
  · rw [hprev', hk, Line.sampleSense_eq, hlevel]
  · have hsample := Line.sampleSense_afterReset (l := l.countHold) (pins.getLsbD n.val) (hprevious.trans hafter)
    rw [hsense', hlast', hpending', hchange', hk, hsample, hlevel, Line.countHold_eq]
    exact ⟨rfl, rfl, rfl, rfl⟩
  · have hsample := Line.sampleSense_accepted _ (haccepts.2 hacc)
    rw [hsense', hpending', hchange', hbefore', hlast', hk, hsample, hlevel, Line.countHold_eq]
    exact ⟨rfl, rfl, rfl, rfl, rfl⟩
  · have hsample := Line.sampleSense_kept (l := l.countHold) (pins.getLsbD n.val)
      (Bool.eq_false_iff.2 fun h => hnot (haccepts.1 h)) (by rw [hprevious]; exact hafter)
    rw [hsense', hpending', hchange', hbefore', hlast', hk, hsample, Line.countHold_eq]
    exact ⟨rfl, rfl, rfl, State.countBefore_of_settled hset n, rfl⟩
  · rw [hreached', hreach, hreached, hcounts.2 hc]
    rfl
  · have htimed : k.holdTimed = true := by
      have horders : k.txOrder = l.txOrder ∧ k.holding = l.holding := by rw [hfrom]; exact ⟨rfl, rfl⟩
      obtain ⟨-, htx, hholding, -⟩ := hc
      rw [Line.holdTimed, ← hin, hin', horders.1, horders.2, htx, hholding]
      rfl
    obtain ⟨h1, h2⟩ := htimer (hin ▸ hin') htimed
    rw [h1, h2, hcount, hstop, hreached', hreach, hreached, hcounts.2 hc, hc.2.2.2.2]
    exact ⟨rfl, rfl⟩
  · rw [hreached', hreach, hreached, Bool.eq_false_iff.2 fun h => hnc (hcounts.1 h)]
    rfl
  · have hnot : l.holdCounts = false := Bool.eq_false_iff.2 fun h => hnc (hcounts.1 h)
    rw [hnot] at hcount hstop
    simp only [Bool.false_and, Bool.or_false] at hstop
    by_cases htimed : k.holdTimed = true
    · obtain ⟨h1, h2⟩ := htimer (hin ▸ hin') htimed
      exact ⟨h1.trans hcount, h2.trans hstop⟩
    · have hl'timed : l'.holdTimed = false := by
        rw [hl', Line.tend_of_calm (.inr (.inl (hin ▸ hin'))), Line.tendHoldTimer_eq]
        exact Bool.eq_false_iff.2 htimed
      have hltimed : l.holdTimed = false := by
        have horders : k.txOrder = l.txOrder ∧ k.holding = l.holding := by rw [hfrom]; exact ⟨rfl, rfl⟩
        rw [Line.holdTimed, ← hin, hin', horders.1, horders.2, Bool.true_and] at htimed
        rw [Line.holdTimed, Bool.and_assoc, Bool.eq_false_iff.2 htimed, Bool.and_false]
      obtain ⟨h1, h2⟩ := htimer0 hl'timed
      obtain ⟨h3, h4⟩ := (Line.atRest_iff.1 hrest).2 hltimed
      exact ⟨h1.trans h3.symm, h2.trans h4.symm⟩
  · have hnot : l'.holdTimed = false := by
      rcases hnone with h | h | h <;> simp [Line.holdTimed, h]
    exact htimer0 hnot
  have hkept : l'.queue = l.queue ∧ l'.rxOrder = l.rxOrder ∧ l'.txOrder = l.txOrder ∧ l'.attn = l.attn ∧
      l'.setting = l.setting ∧ l'.receiver = l.receiver ∧ l'.faulted = l.faulted := by
    rw [hl', Line.tend_eq, hfrom]
    exact ⟨rfl, rfl, rfl, rfl, rfl, rfl, rfl⟩
  obtain ⟨hqueue, hrx, htx, hattn, hsetting, hreceiver, hfaulted⟩ := hkept
  refine ⟨hqueue, hrx, htx, hattn, hsetting, hreceiver, hfaulted, fun hrest => ?_⟩
  intro f sends pair released
  have hsends : sends = (Line.tend s k).sending := by rw [← hl']; rfl
  have hreleased : released ↔ l.shifter = .empty ∧ l.inHold = true ∧ k.inHold = false := by rw [← hin]
  have hquiet (h : l.txPhase ≠ .payload ∨ s.seq = .quiesced) : l.underruns (s.seq == .quiesced) = false := by
    rcases h with h | h <;> simp [Line.underruns, h]
  clear_value sends
  subst hsends
  refine ⟨fun hnot => Line.tend_sampled_kept hfrom hrest fun h => hnot (hreleased.2 h), fun hrel ha => ?_,
    fun hrel ha => ⟨fun hphase hne hsource => ?_, fun hphase hh => ?_, fun h hh => ⟨fun hphase hplain => ?_,
      fun hframed hsource => ?_⟩⟩⟩ <;> obtain ⟨hshifter, -, hout⟩ := hreleased.1 hrel
  · exact Line.tend_sampled_abort hfrom hshifter hout ha
  · have hheld : l.payloadHeld = false := by
      unfold Line.payloadHeld
      split
      · next h hh => simpa using hsource h hh
      · rfl
    exact Line.tend_sampled_underrun hfrom hshifter hout ha (by simp [Line.underruns, hphase, hheld, hne])
  · rw [Line.tend_sampled_nothing hfrom ha (hquiet hphase) hh, Line.sending, hshifter, hh, ha]
  · have hnot : (l.framed && h.source == .order) = false := by rcases hplain with h | h <;> simp [h]
    rw [Line.tend_sampled_holding hfrom hshifter hout ha (hquiet hphase) hh, hnot, if_neg Bool.false_ne_true,
      Line.sendCharacter_eq, Line.sending, ha]
    rfl
  · intro trailer
    have hheld : l.payloadHeld = true := by simp [Line.payloadHeld, hh, hsource]
    rw [Line.tend_sampled_holding hfrom hshifter hout ha (by simp [Line.underruns, hheld]) hh,
      if_pos (by simp [hframed, hsource])]
    refine ⟨fun hfirst => ?_, fun hfirst => ?_⟩
    · rw [Line.sendPayload_first _ _ hfirst, Line.sending, ha]
      rfl
    · rw [Line.sendPayload_next _ _ hfirst, Line.sending, ha]
      rfl

end Sys2Proof.Machine
end

section
/-! The receiver's phases follow its input (R48 to R50, R60, R163). -/

namespace Sys2Proof.Machine

variable {s t u : State} {l k : Line} {n : LineNo} {f : State → State}

/-! ### Rows of the receiver -/

/-- An instant of a line, where the clock runs. -/
theorem State.atLine_open {g : Line → Line} (h : s.windowShut = false) : s.atLine n g = s.setLine n (g (s.line n)) :=
  if_pos (by simp [State.clockRuns, h])

/-- None occurs while the clock is stopped or settling. -/
theorem State.atLine_shut {g : Line → Line} (h : s.windowShut = true) : s.atLine n g = s :=
  if_neg (by simp [State.clockRuns, h])

/-- An instant that changes nothing of its line changes nothing. -/
theorem State.atLine_self {g : Line → Line} (h : g (s.line n) = s.line n) : s.atLine n g = s := by
  unfold State.atLine
  split
  · rw [State.onLine_eq, h, State.setLine_self]
  · rfl

/-- A row of a line, where the clock runs, is what it does to the line. -/
theorem leads_atLine {c : Instr} {g : State → Line → Line} {k : Line} (hset : s.settled = true)
    (hc : exec c s = command (fun s => s.atLine n (g s)) s) (hshut : s.windowShut = false) (hg : g s (s.line n) = k) :
    Leads (exec c s) (s.setLine n k) := by
  rw [hc]
  refine leads_command hset ?_
  rw [State.atLine_open hshut, hg]

/-- A row that changes nothing of its line changes nothing. -/
theorem leads_atLine_self {c : Instr} {g : State → Line → Line} (hset : s.settled = true)
    (hc : exec c s = command (fun s => s.atLine n (g s)) s) (hg : g s (s.line n) = s.line n) :
    Leads (exec c s) s := by
  rw [hc]
  exact leads_command hset (State.atLine_self hg)

theorem Line.recoverEnds_of_none (h : l.receiver.phase.recovers = false ∨ (l.receiver.loop = true ∧ l.markSeen s = false)) :
    l.recoverEnds s = l := by
  rcases h with h | ⟨h1, h2⟩ <;> simp [Line.recoverEnds, *]

theorem Line.recoverEnds_of_seen (hp : l.receiver.phase.recovers = true)
    (h : l.receiver.loop = false ∨ l.markSeen s = true) : l.recoverEnds s = l.enterSearch := if_pos ⟨hp, h⟩

/-! ### What a looped receiver hears of a character -/

/-- At the centre of a bit the character on the line is at that bit's level (R47, R48). -/
theorem Transmission.level_at_centre {x : Transmission} {j : Nat} (hdiv : 0 < x.format.divisor)
    (h : x.clocks = x.format.divisor * (8 + 16 * j)) :
    x.level = ((characterLevels x.format x.char)[j]?).getD true := by
  have hindex : x.clocks / bitClocks x.format = j := by
    rw [h, bitClocks, Nat.mul_div_mul_left _ _ hdiv]
    simp only [Config.ticksPerBit]
    omega
  rw [Transmission.level, hindex]

theorem formatBits_le (g : Format) : formatBits g ≤ 8 := by
  unfold formatBits setDataBits
  split
  · exact Nat.le_refl 8
  · omega

/-- The value on the line has the data bits of the format (R49). -/
theorem getLsbD_lineValue (g : Format) (b : Byte) (i : Nat) :
    (lineValue g b).getLsbD i = (b.getLsbD i && decide (i < formatBits g)) := by
  have hbits := formatBits_le g
  have hmask : (0xFF#8 >>> (8 - formatBits g)).getLsbD i = decide (i < formatBits g) := by
    have hones : 0xFF#8 = BitVec.allOnes 8 := rfl
    rw [hones, BitVec.getLsbD_ushiftRight, BitVec.getLsbD_allOnes]
    exact decide_eq_decide.2 (by omega)
  rw [lineValue, BitVec.getLsbD_and, hmask]

/-- The bits of a character before its first stop bit (R47). -/
theorem characterLevels_take (g : Format) (c : Byte) : (characterLevels g c).take (stopSample g) =
    [false] ++ (List.range (formatBits g)).map c.getLsbD ++
      (if formatParity g then [parityFor g (lineValue g c)] else []) := by
  have hlen : ([false] ++ (List.range (formatBits g)).map c.getLsbD ++
      (if formatParity g then [parityFor g (lineValue g c)] else [])).length = stopSample g := by
    unfold stopSample
    cases formatParity g <;> simp <;> omega
  rw [characterLevels, List.append_assoc _ (if formatParity g then _ else _)]
  rw [← List.append_assoc, ← hlen, List.take_left']
  rfl

/-- The bits of a character, sampled in its own format, are the character (R49). -/
theorem completed_of_levels (g : Format) (c : Byte) {samples : List Bool}
    (h : samples = (characterLevels g c).take (stopSample g)) :
    completed g (BitVec.ofFnLE fun i : Fin 8 => (samples[1 + i.val]?).getD false)
      ((samples[1 + formatBits g]?).getD false) true = .char (lineValue g c) false false := by
  rw [characterLevels_take] at h
  have hbit (i : Nat) (hi : i < formatBits g) : (samples[1 + i]?).getD false = c.getLsbD i := by
    rw [h, List.append_assoc, List.getElem?_append_right (by simp), List.getElem?_append_left (by simpa using hi)]
    simp [hi]
  have hvalue : lineValue g (BitVec.ofFnLE fun i : Fin 8 => (samples[1 + i.val]?).getD false) = lineValue g c := by
    refine BitVec.eq_of_getLsbD_eq fun i hi => ?_
    rw [getLsbD_lineValue, getLsbD_lineValue]
    by_cases hin : i < formatBits g
    · have hfn : (BitVec.ofFnLE fun j : Fin 8 => (samples[1 + j.val]?).getD false).getLsbD i = c.getLsbD i := by
        rw [← hbit i hin]
        simp [hi]
      rw [hfn]
    · simp [hin]
  have hparity : formatParity g = true → (samples[1 + formatBits g]?).getD false = parityFor g (lineValue g c) := by
    intro hp
    rw [h, if_pos hp, List.getElem?_append_right (by simp [Nat.add_comm])]
    simp [Nat.add_comm]
  rw [completed, hvalue, if_neg (by simp)]
  congr 1
  cases hp : formatParity g with
  | false => rfl
  | true =>
    rw [hparity hp]
    simp

/-! ### The receiver between commands -/

/-- A line whose transmitter is drained when its instants have come was drained before, where its shifter had not come to
an end: they only start what there is to send. -/
theorem Line.drained_of_endCounts (hend : l.sentOut = false) (h : (l.endCounts s).drained = true) : l.drained = true := by
  have hsends {k k' : Line} (he : k.sends = k'.sends) (hk : k.drained = true) : k'.drained = true := by
    simp only [Line.sends, Prod.mk.injEq] at he
    obtain ⟨hshifter, -, -, hholding, habort⟩ := he
    unfold Line.drained at hk ⊢
    rwa [hshifter, hholding, habort] at hk
  have hheard : (l.hear s).drained = true := by
    unfold Line.endCounts at h
    rw [Line.endShifter_of_sending hend, Line.checkIdleGap_eq_idle] at h
    exact h
  rcases l.hear_cases s with heq | ⟨c, heq⟩
  · exact hsends (k := l.hear s) (by rw [heq]; rfl) hheard
  · obtain ⟨k, hk⟩ : ∃ k, k = (if l.framed then (l.heardIn (phaseAfterCompletion c)).receiveFramed c
      else (l.heardIn (phaseAfterCompletion c)).receiveAsync s c) := ⟨_, rfl⟩
    have hksends : k.sends = l.sends := by
      rw [hk]
      split
      · rw [Line.receiveFramed_eq]
        rfl
      · rw [Line.receiveAsync_eq]
        rfl
    have htended : (Line.tend s k).drained = true := by
      rw [heq, Line.hearFall_eq, Line.complete_eq, ← hk] at hheard
      exact hheard
    by_cases hcalm : k.calm s
    · rw [Line.tend_of_calm hcalm, Line.tendHoldTimer_eq] at htended
      exact hsends hksends htended
    · obtain ⟨-, hstarted⟩ := Line.feedShifter_of_not_calm hcalm
      have hempty := Line.shifter_of_drained htended
      rw [Line.tend, Line.tendHoldTimer_eq] at hempty
      exact absurd hempty hstarted

/-- STANDBY is not entered by an instant of a receiver: its transmitters are drained already, or not. -/
theorem State.not_entersStandby (hset : s.settled = true)
    (hends : s.power = .standbyEntry → ∀ m : LineNo, (s.line m).sentOut = false) : ¬s.entersStandby := by
  rintro ⟨hp, hdrained, hmem⟩
  have hall : s.allDrained = true := by
    simp only [State.allDrained, List.all_eq_true, List.mem_finRange, forall_const]
    exact fun m => Line.drained_of_endCounts (hends hp m) (hdrained m)
  simp only [State.settled, Bool.and_eq_true, Bool.not_eq_true'] at hset
  have hdue := hset.1.1.1.2
  rw [State.standbyDue, hp, hall, hmem] at hdue
  exact absurd hdue (by decide)

/-- A clock period as the receiver counts it, or as the preceding sample of its search. -/
def Line.counted (k : Line) : Receiver := k.clockReceiver.receiver

theorem Line.counted_of_search (h : k.receiver.phase = .search) : k.counted = { k.receiver with before := k.loopLevel } := by
  unfold Line.counted Line.clockReceiver
  rw [if_pos h]

theorem Line.counted_of_loop (h : k.receiver.phase ≠ .search) (hloop : k.receiver.loop = true) :
    k.counted = { k.receiver with clocks := k.receiver.clocks + 1 } := by
  unfold Line.counted Line.clockReceiver
  rw [if_neg h, if_pos hloop]

theorem Line.counted_of_pin (h : k.receiver.phase ≠ .search) (hloop : k.receiver.loop = false) :
    k.counted = k.receiver := by
  unfold Line.counted Line.clockReceiver
  rw [if_neg h, if_neg (by simp [hloop])]

theorem Line.clock_receives (s : State) (k : Line) :
    (k.clock s).receiver = k.counted ∧ (k.clock s).queue = k.queue ∧ (k.clock s).frameRx = k.frameRx := by
  unfold Line.clock Line.counted
  rw [Line.clockIdle_eq, Line.clockShifter_eq]
  have hrest : k.clockReceiver.queue = k.queue ∧ k.clockReceiver.frameRx = k.frameRx := by
    rw [Line.clockReceiver_eq]
    exact ⟨rfl, rfl⟩
  exact ⟨rfl, hrest⟩

/-- The same for a line whose receiver has just become `q`. -/
theorem Line.counted_with_search {q : Receiver} (hq : q.phase = .search) :
    ({ l with receiver := q } : Line).counted = { q with before := l.loopLevel } :=
  Line.counted_of_search (k := { l with receiver := q }) hq

theorem Line.counted_with_loop {q : Receiver} (hq : q.phase ≠ .search) (hloop : q.loop = true) :
    ({ l with receiver := q } : Line).counted = { q with clocks := q.clocks + 1 } :=
  Line.counted_of_loop (k := { l with receiver := q }) hq hloop

/-- What a step between commands makes of a line's receiver, its queue and its framed receive machine. -/
theorem step_receiver (hset : s.settled = true) (hpending : s.pending = []) (hshut : s.windowShut = false)
    (hbeat : s.beatClocks ≠ 7200) (hend : (s.line n).sentOut = false)
    (hends : s.power = .standbyEntry → ∀ m : LineNo, (s.line m).sentOut = false) :
    ∃ u, step s = .next u ∧ (u.line n).receiver = ((s.line n).hear s).counted ∧
      (u.line n).queue = ((s.line n).hear s).queue ∧ (u.line n).frameRx = ((s.line n).hear s).frameRx := by
  obtain ⟨u, hstep, -, hclock⟩ := step_line hset hpending hshut hbeat
  refine ⟨u, hstep, ?_⟩
  rw [hclock (State.not_entersStandby hset hends) n]
  have hidle : (s.line n).endCounts s = { (s.line n).hear s with
      idleStarted := ((s.line n).endCounts s).idleStarted, idleDue := ((s.line n).endCounts s).idleDue } := by
    unfold Line.endCounts
    rw [Line.endShifter_of_sending hend]
    exact Line.checkIdleGap_eq_idle _ _
  generalize (s.line n).endCounts s = k at hidle
  obtain ⟨hreceiver, hqueue, hframe⟩ := k.clock_receives s
  refine ⟨hreceiver.trans ?_, hqueue.trans ?_, hframe.trans ?_⟩
  · rw [hidle, Line.counted, Line.counted, Line.clockReceiver_eq, Line.clockReceiver_eq]
    rfl
  · rw [hidle]
  · rw [hidle]

/-! ### A completion between commands -/

/-- The receiver of a looped line that has completed: it searches, or waits for mark after a break (R49, R50). -/
theorem Line.complete_receiver (s : State) (l : Line) (c : Completed) : (Line.complete s l c).receiver =
    { l.receiver with phase := phaseAfterCompletion c, clocks := 0, before := l.loopLevel, samples := [] } := by
  rw [Line.complete_eq, Line.tend_eq]
  split
  · rw [Line.receiveFramed_eq]
    rfl
  · rw [Line.receiveAsync_eq]
    rfl

theorem Line.complete_setting (s : State) (l : Line) (c : Completed) : (Line.complete s l c).setting = l.setting :=
  congrArg Prod.fst (l.complete_context s c)

/-- What the shifter starts is on the route of the setting in force (R60, R63). -/
theorem Line.feedShifter_looped (s : State) (l : Line) : (l.feedShifter s).shifter = l.shifter ∨
    (l.feedShifter s).shifter.looped = setLoop l.setting := by
  have hpieces (k : Line) (what : Sending) (g : Format) (p : Piece) (ps : List Piece) :
      (k.sendPieces what g (p :: ps)).shifter.looped = setLoop k.setting := rfl
  unfold Line.feedShifter
  split_ifs
  · exact .inl rfl
  · exact .inr rfl
  · exact .inr rfl
  · split
    · exact .inl rfl
    · next h hh =>
      split
      · cases hfirst : h.first with
        | true => rw [Line.sendPayload_first _ _ hfirst]; exact .inr rfl
        | false =>
          rw [Line.sendPayload_next _ _ hfirst]
          dsimp only
          split <;> exact .inr rfl
      · exact .inr rfl

/-- After a completion the internal input is as it was, unless a character has started on the loopback route. -/
theorem Line.complete_loopLevel (s : State) (l : Line) (c : Completed) :
    (Line.complete s l c).loopLevel = l.loopLevel ∨
      l.loopLevel = true ∧ ((Line.complete s l c).loopLevel = false → setLoop l.setting = true) := by
  obtain ⟨k, hk⟩ : ∃ k, k = (if l.framed then (l.heardIn (phaseAfterCompletion c)).receiveFramed c
      else (l.heardIn (phaseAfterCompletion c)).receiveAsync s c) := ⟨_, rfl⟩
  have hshifter : k.shifter = l.shifter ∧ k.setting = l.setting := by
    rw [hk]
    split
    · rw [Line.receiveFramed_eq]
      exact ⟨rfl, rfl⟩
    · rw [Line.receiveAsync_eq]
      exact ⟨rfl, rfl⟩
  have hcomplete : (Line.complete s l c).shifter = (k.feedShifter s).shifter := by
    rw [Line.complete_eq, ← hk, Line.tend, Line.tendHoldTimer_eq]
  by_cases hcalm : k.calm s
  · left
    rw [Line.feedShifter_of_calm hcalm, hshifter.1] at hcomplete
    rw [Line.loopLevel, hcomplete, ← Line.loopLevel]
  · right
    obtain ⟨hempty, -⟩ := Line.feedShifter_of_not_calm hcalm
    refine ⟨Line.loopLevel_of_empty (hshifter.1.symm.trans hempty), fun hlow => ?_⟩
    rw [Line.loopLevel, hcomplete] at hlow
    simp only [Bool.or_eq_false_iff, Bool.not_eq_false'] at hlow
    rcases k.feedShifter_looped s with h | h
    · rw [h, hempty] at hlow
      exact absurd hlow.1 (by decide)
    · rw [← hshifter.2, ← h]
      exact hlow.1

/-- The fall of the internal input right after a completion starts the next character (R48). -/
theorem Line.hearFall_complete (s : State) (l : Line) (c : Completed) (hloop : l.receiver.loop = true) :
    ((Line.complete s l c).hearFall s).counted =
      if c = .brk then
        { l.receiver with phase := .recover, clocks := 1, before := l.loopLevel, samples := [] }
      else if l.loopLevel = true ∧ (Line.complete s l c).loopLevel = false then
        { l.receiver with
          phase := .start, clocks := 1, before := l.loopLevel, samples := [], format := s.formatOf l, loop := true }
      else { l.receiver with phase := .search, clocks := 0, before := l.loopLevel, samples := [] } := by
  have hreceiver := l.complete_receiver s c
  have hsetting := l.complete_setting s c
  have hlevel := l.complete_loopLevel s c
  generalize Line.complete s l c = k at hreceiver hsetting hlevel
  cases c with
  | brk =>
    rw [if_pos rfl]
    have hnone : k.hearFall s = k := by
      unfold Line.hearFall
      rw [Line.fallingEdge_of_none (.inl (by rw [hreceiver]; exact nofun)), ite_self]
    rw [hnone, Line.counted_of_loop (by rw [hreceiver]; exact nofun) (by rw [hreceiver]; exact hloop), hreceiver]
    rfl
  | char v p g =>
    rw [if_neg (by exact nofun)]
    have hsearch : k.receiver.phase = .search := by rw [hreceiver]; rfl
    by_cases hfall : l.loopLevel = true ∧ k.loopLevel = false
    · rw [if_pos hfall]
      have hset : setLoop k.setting = true := by
        rw [hsetting]
        rcases hlevel with h | ⟨-, h⟩
        · exact absurd (hfall.2.symm.trans (h.trans hfall.1)) (by decide)
        · exact h hfall.2
      have hfalls : k.loopFalls = true := by
        rw [Line.loopFalls, hreceiver, hfall.1, hfall.2]
        rfl
      have hstart : k.hearFall s = k.startCharacter (s.formatOf k) true := by
        rw [Line.hearFall, if_pos (by rw [hset, hfalls]; rfl), Line.fallingEdge_of_fall hsearch (.inr hfalls), hset]
      have hformat : s.formatOf k = s.formatOf l := by simp only [State.formatOf, hsetting]
      rw [hstart, Line.counted_of_loop (by exact nofun) rfl, hformat, Line.startCharacter, hreceiver]
    · rw [if_neg hfall]
      have hsame : k.loopLevel = l.loopLevel := by
        rcases hlevel with h | ⟨h, -⟩
        · exact h
        · rw [h]
          by_contra hlow
          exact hfall ⟨h, by simpa using hlow⟩
      have hnone : k.hearFall s = k := by
        have hno : k.loopFalls = false := by
          rw [Line.loopFalls, hreceiver, hsame]
          simp
        rw [Line.hearFall, hno, Bool.and_false, if_neg Bool.false_ne_true]
      rw [hnone, Line.counted_of_search hsearch, hreceiver, hsame]
      rfl

/-! ### What this instant brings to a looped receiver -/

theorem Line.hear_search_quiet (hp : l.receiver.phase = .search) (h : setLoop l.setting = false ∨ l.loopFalls = false) :
    l.hear s = l := by
  have hdue : l.instantDue s = false := by
    rcases h with h | h <;> simp [Line.instantDue, Line.listens, hp, h]
  rw [Line.hear, if_neg (ne_true_of_eq_false hdue), Line.hearBits, hp]
  exact ite_self l

theorem Line.hear_search_fall (hp : l.receiver.phase = .search) (hloop : setLoop l.setting = true)
    (h : l.loopFalls = true) : l.hear s = l.startCharacter (s.formatOf l) (setLoop l.setting) := by
  have hdue : l.instantDue s = true := by simp [Line.instantDue, Line.listens, hp, h, hloop]
  rw [Line.hear, if_pos hdue, Line.hearInstant, hp]
  exact (if_pos (by rw [hloop, h]; rfl)).trans (Line.fallingEdge_of_fall hp (.inr h))

section
variable (hloop : l.receiver.loop = true)
include hloop

theorem Line.listens_of_loop (hp : l.receiver.phase ≠ .search) : l.listens = true := by
  rw [Line.listens, if_neg hp, hloop]

/-- The start-bit sample, in its time (R48). -/
theorem Line.hear_start (hp : l.receiver.phase = .start) : l.hear s =
    if l.receiver.sampleDue then
      if l.loopLevel then l.enterSearch
      else { l with receiver := { l.receiver with phase := .assemble, samples := [false] } }
    else l := by
  have hlistens := Line.listens_of_loop hloop (by rw [hp]; exact nofun)
  have hdue : l.instantDue s = l.receiver.sampleDue := by rw [Line.instantDue, hlistens, hp, Bool.true_and]
  rw [Line.hear, hdue]
  split
  · next hs =>
    rw [Line.hearInstant, hp]
    refine (Line.startSample_of_due false hp (.inr hs)).trans ?_
    rw [Line.sampledLevel, if_pos hloop]
  · rw [Line.hearBits, if_pos hlistens, hp]

/-- A data or parity bit, or the completion at the first stop bit, in its time (R49). -/
theorem Line.hear_assemble (hp : l.receiver.phase = .assemble) : l.hear s =
    if l.receiver.sampleDue then
      if l.receiver.bitsSampled then (Line.complete s l (l.completedOf 0 false false)).hearFall s
      else { l with receiver := { l.receiver with samples := l.receiver.samples ++ [l.loopLevel] } }
    else l := by
  have hlistens := Line.listens_of_loop hloop (by rw [hp]; exact nofun)
  have hdue : l.instantDue s = (l.receiver.bitsSampled && l.receiver.sampleDue) := by
    rw [Line.instantDue, hlistens, hp, Bool.true_and]
    simp only [Line.completes, hp, hloop, Bool.not_true, Bool.false_or, beq_self_eq_true, Bool.true_and]
  rw [Line.hear, hdue, Line.hearInstant, Line.hearBits, if_pos hlistens, hp]
  cases l.receiver.sampleDue <;> cases l.receiver.bitsSampled <;> rfl

/-- The end of the mark it waits for, or its count (R50, R163). -/
theorem Line.hear_waits (hp : l.receiver.phase.recovers = true) : l.hear s =
    if l.markSeen s then l.enterSearch else l.restartMark s := by
  have hsearch : l.receiver.phase ≠ .search := fun h => by rw [h] at hp; exact absurd hp (by decide)
  have hlistens := Line.listens_of_loop hloop hsearch
  have hdue : l.instantDue s = l.markSeen s := by
    rw [Line.instantDue, hlistens, Bool.true_and]
    cases hphase : l.receiver.phase <;> rw [hphase] at hp <;> first | rfl | exact absurd hp (by decide)
  rw [Line.hear, hdue]
  split
  · next hs =>
    rw [← Line.recoverEnds_of_seen hp (.inr hs), Line.hearInstant]
    cases hphase : l.receiver.phase <;> rw [hphase] at hp <;> first | rfl | exact absurd hp (by decide)
  · rw [Line.hearBits, if_pos hlistens]
    cases hphase : l.receiver.phase <;> rw [hphase] at hp <;> first | rfl | exact absurd hp (by decide)

end

/-! ### The statement -/

/-- The mark the receiver waits for (R50, R163). -/
theorem Line.recoverClocks_eq (s : State) (l : Line) : l.recoverClocks s =
    if l.receiver.phase = .wakeRecover then characterClocks (s.formatOf l) else l.receiver.format.divisor * 16 := by
  unfold Line.recoverClocks Line.recoverFormat
  split <;> rfl

theorem Line.recoverFormat_divisor (s : State) (l : Line) : (l.recoverFormat s).divisor =
    if l.receiver.phase = .wakeRecover then (s.formatOf l).divisor else l.receiver.format.divisor := by
  unfold Line.recoverFormat
  split <;> rfl

/-- Settles O50: row by row, then the clock's own account of the receiver. -/
theorem receiverPhasesFollowTheInput : Obligations.ReceiverPhasesFollowTheInput := by
  unfold Obligations.ReceiverPhasesFollowTheInput
  intro n row s hset l r f level become searching started assembling falls sampling stop waits mark tick seen assembled
  have hlevel : l.loopLevel = level := by
    dsimp only [level]
    cases hx : l.shifter with
    | empty => exact Line.loopLevel_of_empty hx
    | sending x => exact Line.loopLevel_of_sending hx
    | brk times g clocks loop => exact Line.loopLevel_of_brk hx
    | brkMark g clocks loop => exact Line.loopLevel_of_brkMark hx
  have hfalls : l.loopFalls = true ↔ falls := by
    rw [Line.loopFalls, hlevel]
    simp [falls, r]
  have hsampling : l.receiver.sampleDue = true ↔ sampling := decide_eq_true_iff
  have hbits : l.receiver.bitsSampled = true ↔ stop ≤ r.samples.length := decide_eq_true_iff
  have hwaits : l.receiver.phase.recovers = true ↔ waits := by
    change r.phase.recovers = true ↔ r.phase = .recover ∨ r.phase = .wakeRecover
    cases r.phase <;> simp [RxPhase.recovers]
  have hseen : l.markSeen s = true ↔ seen := by
    rw [Line.markSeen, hlevel, Line.recoverClocks_eq, Bool.and_eq_true, decide_eq_true_iff]
    rfl
  have hsearch : l.enterSearch = { l with receiver := searching } := by
    rw [Line.enterSearch, hlevel]
  have hassembled : l.receiver.loop = true → l.completedOf 0 false false = assembled := by
    intro hloop
    rw [Line.completedOf, Line.sampled, if_pos hloop, hlevel]
    rfl
  have hfalling : exec (.fallingEdge n) s = command (fun s => s.atLine n (Line.fallingEdge s)) s := exec_fallingEdge s n
  have hsample : exec (.startBitSample n row) s = command (fun s => s.atLine n fun l => l.startSample row) s :=
    exec_startBitSample s n row
  have hrecover : exec (.recoverEnd n) s = command (fun s => s.atLine n (Line.recoverEnds s)) s := exec_recoverEnd s n
  refine ⟨?_, fun hshut => ⟨?_, ?_, ?_⟩, fun hshut => ⟨fun hp => ?_, fun hp hf => ?_, fun hp hloop hf => ?_,
    fun hp => ?_, fun hp hloop => ?_, fun hp hloop hs => ?_, fun hp hloop hs => ?_, fun hw hs => ?_, fun hw => ?_,
    fun data parityBit stopBit hp hloop => ⟨?_, fun hstop hs => ?_, fun hno => ?_⟩,
    fun x hx hloop hformat => ⟨fun hdiv hclocks => ?_, fun hsamples hhigh => ?_⟩, fun hpending hbeat hend hends => ?_⟩⟩
  · rw [Line.txdPin]
    cases l.shifter with
    | sending x => rfl
    | brk times g clocks loop => cases loop <;> rfl
    | empty => rfl
    | brkMark g clocks loop => cases loop <;> rfl
  · rw [hfalling]
    exact leads_command hset (State.atLine_shut hshut)
  · rw [hsample]
    exact leads_command hset (State.atLine_shut hshut)
  · rw [hrecover]
    exact leads_command hset (State.atLine_shut hshut)
  · exact leads_atLine_self (g := Line.fallingEdge) hset hfalling (Line.fallingEdge_of_none (.inl hp))
  · exact leads_atLine (g := Line.fallingEdge) hset hfalling hshut (Line.fallingEdge_of_fall hp (hf.imp_right hfalls.2))
  · exact leads_atLine_self (g := Line.fallingEdge) hset hfalling (Line.fallingEdge_of_none (.inr ⟨hloop, Bool.eq_false_iff.2 fun h => hf (hfalls.1 h)⟩))
  · exact leads_atLine_self (g := fun _ l => l.startSample row) hset hsample (Line.startSample_of_none _ (.inl hp))
  · have hg := Line.startSample_of_due row hp (.inl hloop)
    have hrow : l.sampledLevel row = row := if_neg (ne_true_of_eq_false hloop)
    rw [hrow, hsearch] at hg
    have hleads := leads_atLine (g := fun _ l => l.startSample row) hset hsample hshut hg
    cases row <;> exact hleads
  · have hg := Line.startSample_of_due row hp (.inr (hsampling.2 hs))
    have hown : l.sampledLevel row = level := (if_pos hloop).trans hlevel
    rw [hown, hsearch] at hg
    have hleads := leads_atLine (g := fun _ l => l.startSample row) hset hsample hshut hg
    clear_value level
    cases level <;> exact hleads
  · exact leads_atLine_self (g := fun _ l => l.startSample row) hset hsample (Line.startSample_of_none _ (.inr ⟨hloop, Bool.eq_false_iff.2 fun h => hs (hsampling.1 h)⟩))
  · exact leads_atLine (g := Line.recoverEnds) hset hrecover hshut ((Line.recoverEnds_of_seen (hwaits.2 hw) (hs.imp_right hseen.2)).trans hsearch)
  · refine leads_atLine_self (g := Line.recoverEnds) hset hrecover (Line.recoverEnds_of_none ?_)
    rcases hw with h | ⟨hloop, h⟩
    · exact .inl (Bool.eq_false_iff.2 fun h' => h (hwaits.1 h'))
    · exact .inr ⟨hloop, Bool.eq_false_iff.2 fun h' => h (hseen.1 h')⟩
  · rw [exec_completion, exec_breakSeen]
    rw [command_settled hset, command_settled hset, State.completeAt, State.completeAt,
      Line.completedOf_of_loop data parityBit stopBit hloop]
  · have hcompletes : l.completes = true := by
      simp only [Line.completes, hbits.2 hstop, hsampling.2 hs, Bool.and_true, Bool.or_true, beq_iff_eq]
      exact hp
    rw [exec_breakSeen]
    refine leads_command hset ?_
    rw [State.completeAt, if_pos (by simp only [State.clockRuns, hshut, Bool.not_false, Bool.true_and]; exact hcompletes),
      hassembled hloop]
  · have hcompletes : l.completes = false := by
      have hboth : (l.receiver.bitsSampled && l.receiver.sampleDue) = false :=
        Bool.eq_false_iff.2 fun h => hno ((Bool.and_eq_true_iff.1 h).imp hbits.1 hsampling.1)
      have hl : l.receiver.loop = true := hloop
      simp only [Line.completes, hboth, hl, Bool.not_true, Bool.or_false, Bool.and_false]
    rw [exec_breakSeen]
    refine leads_command hset (if_neg ?_)
    change ¬(s.clockRuns && l.completes) = true
    rw [hcompletes, Bool.and_false]
    decide
  · rw [← hlevel, Line.loopLevel_of_sending hx, hloop, Transmission.level_at_centre hdiv hclocks]
    rfl
  · have hstop : stop = stopSample x.format := by rw [hformat]; rfl
    rw [hstop] at hsamples
    dsimp only [assembled]
    rw [hhigh, ← hformat]
    exact completed_of_levels x.format x.char hsamples
  · obtain ⟨u, hstep, hreceiver, hqueue, hframe⟩ := step_receiver hset hpending hshut hbeat hend hends
    refine ⟨u, hstep, ?_⟩
    intro after counted
    change after = (l.hear s).counted at hreceiver
    clear_value after
    subst hreceiver
    refine ⟨fun hp hf => ?_, fun hp hloop hf => ?_, fun hp hloop => ?_, fun hp hloop => ⟨fun hstart => ?_,
      fun hassemble hs => ?_, fun hassemble hs hmore => ?_, fun hassemble hs hdone => ?_, fun hw hs => ?_, fun hw hs => ?_⟩⟩
    · rw [Line.hear_search_quiet hp (hf.imp_right fun h => Bool.eq_false_iff.2 fun h' => h (hfalls.1 h')),
        Line.counted_of_search hp, hlevel]
    · rw [Line.hear_search_fall hp hloop (hfalls.2 hf)]
      exact Line.counted_with_loop (q := started) (by exact nofun) hloop
    · rw [Line.hear_of_pin (by rw [Line.listens, if_neg hp]; exact hloop), Line.counted_of_pin hp hloop]
    · rw [Line.hear_start hloop hstart]
      by_cases hs : sampling
      · rw [if_pos (hsampling.2 hs), if_neg (not_not.2 hs), hlevel]
        by_cases hhigh : level = true
        · rw [if_pos hhigh, if_pos hhigh, hsearch, Line.counted_with_search (q := searching) rfl, hlevel]
        · rw [if_neg hhigh, if_neg hhigh]
          exact Line.counted_with_loop (q := assembling) (by exact nofun) hloop
      · rw [if_neg fun h => hs (hsampling.1 h), if_pos hs, Line.counted_of_loop hp hloop]
    · rw [Line.hear_assemble hloop hassemble, if_neg fun h => hs (hsampling.1 h), Line.counted_of_loop hp hloop]
    · rw [Line.hear_assemble hloop hassemble, if_pos (hsampling.2 hs),
        if_neg fun h => absurd (hbits.1 h) (Nat.not_le.2 hmore), hlevel]
      exact Line.counted_with_loop (q := { r with samples := r.samples ++ [level] }) hp hloop
    · have hhear : l.hear s = (Line.complete s l assembled).hearFall s := by
        rw [Line.hear_assemble hloop hassemble, if_pos (hsampling.2 hs), if_pos (hbits.2 hdone), hassembled hloop]
      intro k
      refine ⟨hqueue.trans ?_, hframe.trans ?_, ?_⟩
      · rw [hhear, Line.hearFall_eq]
      · rw [hhear, Line.hearFall_eq]
      · rw [hhear, Line.hearFall_complete s l assembled hloop, hlevel]
        rfl
    · rw [Line.hear_waits hloop (hwaits.2 hw), if_pos (hseen.2 hs), hsearch,
        Line.counted_with_search (q := searching) rfl, hlevel]
    · rw [Line.hear_waits hloop (hwaits.2 hw), if_neg fun h => hs (hseen.1 h)]
      have hmark : l.restartMark s = { l with receiver :=
          { r with clocks := if level = false ∧ r.clocks % tick = 0 then 0 else r.clocks } } := by
        have htick : (l.recoverFormat s).divisor = tick := Line.recoverFormat_divisor s l
        rw [Line.restartMark, hlevel, htick]
        by_cases h : level = false ∧ r.clocks % tick = 0
        · rw [if_pos h, if_pos (by simp [h.1]; exact h.2)]
        · rw [if_neg h, if_neg fun h' => h (by simpa using h')]
      rw [hmark]
      exact Line.counted_with_loop hp hloop

end Sys2Proof.Machine
end


section
/-! The visit's beginning and its steps as equations over the visited line: which line is chosen (R34), what the visit
finds there, and how each step leaves the rest of the part alone (R32 to R38). -/

namespace Sys2Proof.Machine

variable {s u : State} {l k : Line} {n : LineNo} {v : Visit}

/-! ### The line chosen (R34) -/

theorem State.rank_nthLine (s : State) {k : Nat} (h : k < 16) : s.rank (s.nthLine (k + 1)) = k := by
  have hp := s.position.isLt
  simp only [State.rank, State.nthLine]
  omega

theorem State.nthLine_rank (s : State) (n : LineNo) : s.nthLine (s.rank n + 1) = n := by
  have hp := s.position.isLt
  have hn := n.isLt
  apply Fin.ext
  simp only [State.rank, State.nthLine]
  omega

/-- The round robin finds the line that it reaches first. -/
theorem State.firstLine_eq_some {f : Line → Bool} (hn : f (s.line n) = true)
    (hfirst : ∀ m, f (s.line m) = true → s.rank n ≤ s.rank m) : s.firstLine f = some n := by
  have hrank : s.rank n < 16 := Nat.mod_lt _ (by decide)
  rw [State.firstLine, List.find?_eq_some_iff_getElem]
  refine ⟨hn, s.rank n, by simpa using hrank, by simpa using s.nthLine_rank n, fun j hj => ?_⟩
  have hlt : j < 16 := by omega
  simp only [List.getElem_map, List.getElem_range, Bool.not_eq_true', Bool.eq_false_iff]
  intro hf
  have := hfirst _ hf
  rw [s.rank_nthLine hlt] at this
  omega

/-- What a line's being picked says of the choice and of the part. -/
theorem State.picks.chosen (h : s.picks n) : s.mayVisit = true ∧ s.chooseLine = some n := by
  obtain ⟨hseq, hpower, hvisit, hn, hfirst⟩ := h
  exact ⟨by simp [State.mayVisit, hseq, hpower, hvisit], State.firstLine_eq_some hn hfirst⟩

/-! ### The beginning of a visit (R32, R36) -/

/-- A line written twice is as it was written last. -/
theorem State.setLine_setLine (s : State) (n : LineNo) (k k' : Line) :
    (s.setLine n k).setLine n k' = s.setLine n k' := by
  simp [State.setLine]

theorem State.onLine_setLine (s : State) (n : LineNo) (k : Line) (f : Line → Line) :
    (s.setLine n k).onLine n f = s.setLine n (f k) := by
  rw [State.onLine_eq, State.line_setLine_self, State.setLine_setLine]

/-- Where nothing is due, VISIT makes the steps of the visit to the line picked. -/
theorem exec_visit_picked (hs : s.settled = true) (hp : s.picks n) :
    exec .visit s = .next (beginVisit s n).watchIdle := by
  obtain ⟨hmay, hchoose⟩ := hp.chosen
  simp [exec_visit, expiry, State.finishGuard_settled hs, visitNow_settled hs, nextVisit, hmay, hchoose]

/-- With no status change to be told, a visit goes on to the RX step (R36, R37). -/
theorem beginVisit_of_none (h : (s.line n).pendingBefore = false) :
    beginVisit s n =
      rxStep ({ s with position := n }.setLine n { s.line n with attn := false }) (snapshot s n) := by
  rw [beginVisit, State.onLine_eq, statusStep_of_none]
  · rfl
  · rw [State.line_setLine_self]
    exact h

theorem Line.pendingBefore_of_settled (hs : s.settled = true) (n : LineNo) :
    (s.line n).pendingBefore = (s.line n).statusPending :=
  (Line.before_of_none (State.countBefore_of_settled hs n)).2.2

/-- Where nothing is due and no status change is to be told, VISIT does the RX step on the line picked. -/
theorem leads_visit (hs : s.settled = true) (hp : s.picks n) (hst : (s.line n).statusPending = false)
    (e : rxStep ({ s with position := n }.setLine n { s.line n with attn := false }) (snapshot s n) = u) :
    Leads (exec .visit s) u := by
  rw [exec_visit_picked hs hp, beginVisit_of_none (by rw [Line.pendingBefore_of_settled hs, hst]), e]
  exact ⟨_, rfl, u.watchIdle_agrees⟩

/-! ### Closes of the visited line -/

/-- A receive order on a line at rest closes with its length word, where its mode writes one, or its order word (R16,
R17). -/
theorem closeRx_setLine (hv : v.line = n) (hk : k.atRest s) (o : RxOrder) (code : BitVec 5) (datum : Byte) :
    closeRx (s.setLine n k) v o code datum =
      if o.mode = .single then
        (s.setLine n { k with rxCancel := false }).issue v (.writeOrder .rx (rxClosed o datum code))
          (.wordWrite (rxClosed o datum code)) (s.tableBase + BitVec.ofNat 32 (64 * n.val)) .rxWriteback
      else
        (s.setLine n { k with rxCancel := false }).issue v (.writeLength .rx (rxClosed o datum code))
          (.wordWrite (o.count ++ o.length)) (s.tableBase + BitVec.ofNat 32 (64 * n.val + 8)) .rxWriteback := by
  subst hv
  rw [closeRx, beginClose_of_rest _ _ _ (by rw [State.line_setLine_self]; exact hk), State.line_setLine_self,
    State.setLine_setLine]
  unfold rxCloseLength
  cases o.mode <;> rfl

/-! ### Steps that find nothing to do -/

/-- A visit that began in ACTIVE with the sequencer RUNNING and ends at once, no doze being requested, leaves all but
what it did to its line. -/
theorem endVisit_begun (hr : v.resetHeld = false) (hseq : s.seq = .running) (hpower : s.power = .active)
    (hvisit : s.visit = none) (hreq : s.req ≠ .doze) : endVisit s v = { s with mem := none } := by
  have hafter : s.seq.afterVisit = s.seq := by rw [hseq]; rfl
  rw [endVisit_plain hr (Or.inl hseq) hpower hreq, hafter, ← hvisit]

/-- Without a transmit order and anything to fetch for one, the TX step ends the visit (R38). -/
theorem txStep_of_nothing (ho : (s.line v.line).txOrder = none) (hc : v.txCancel = false) (ha : v.attn = false) :
    txStep s v = endVisit s v := by
  simp [txStep, ho, hc, ha]

/-! ### The head entry (R67 to R71, R117, R119) -/

section
variable {q : Nat} {o : RxOrder} {e : Entry} {rest : List Entry} {value : Byte} {parity framing overrun : Bool}
  {classes : BitVec 4} (hv : v.line = n) (ho : k.rxOrder = some o)
include hv ho

omit ho in
/-- Every mode but RX BLOCK clears IDLE_DUE before it looks at an entry (R77). -/
theorem rxMode_setLine :
    rxMode (s.setLine n k) v o =
      rxEntries (rxQuotaOf o.mode) (s.setLine n { k with idleDue := k.idleDue && !(o.mode != .block) }) v := by
  subst hv
  have hused : (k.idleDue && !(o.mode != .block)) = if o.mode = .block then k.idleDue else false := by
    by_cases hm : o.mode = .block <;> simp [hm]
  simp only [rxMode, State.onLine_setLine, hused]
  split_ifs <;> rfl

theorem rxStep_order (hc : v.rxCancel = false) :
    rxStep (s.setLine n k) v =
      rxEntries (rxQuotaOf o.mode) (s.setLine n { k with idleDue := k.idleDue && !(o.mode != .block) }) v := by
  rw [← rxMode_setLine hv]
  subst hv
  simp only [rxStep, State.line_setLine_self, ho, hc, Bool.false_eq_true, if_false]

theorem rxStep_cancel (hc : v.rxCancel = true) :
    rxStep (s.setLine n k) v = closeRx (s.setLine n (k.markRemnant o)) v o codeCancelled 0 := by
  subst hv
  simp only [rxStep, State.line_setLine_self, ho, hc, if_true, cancelRx, State.onLine_setLine]

/-- An empty queue leaves the idle test (R76). -/
theorem rxEntries_nil (hq : k.queue = []) : rxEntries q (s.setLine n k) v = rxIdleTest (s.setLine n k) v := by
  subst hv
  cases q <;> simp [rxEntries, ho, hq]

/-- RX SINGLE closes on any entry (Table 23). -/
theorem rxEntries_single (hm : o.mode = .single) (hq : k.queue = e :: rest) :
    rxEntries (q + 1) (s.setLine n k) v =
      closeRx (s.setLine n k.pop) v o (singleClosure e).1 (singleClosure e).2 := by
  subst hv
  simp [rxEntries, ho, hq, hm, popHead, State.setLine_setLine]

/-- A block order stores a character without error (R71). -/
theorem rxEntries_stores (hm : o.mode = .block ∨ o.mode = .blockEcho)
    (hq : k.queue = .data value false false overrun classes :: rest) :
    rxEntries (q + 1) (s.setLine n k) v = issueStore (s.setLine n k) v o q value := by
  subst hv
  rcases hm with hm | hm <;> simp [rxEntries, ho, hq, hm]

/-- A block order closes on an error character (R69). -/
theorem rxEntries_error (hm : o.mode = .block ∨ o.mode = .blockEcho)
    (hq : k.queue = .data value parity framing overrun classes :: rest) (he : parity = true ∨ framing = true) :
    rxEntries (q + 1) (s.setLine n k) v =
      closeRx (s.setLine n k.pop) v o (if framing then codeFraming else codeParity) value := by
  subst hv
  have hparity : framing = false → parity = true := by rintro rfl; simpa using he
  cases framing with
  | true => rcases hm with hm | hm <;> simp [rxEntries, ho, hq, hm, popHead, State.setLine_setLine]
  | false =>
    rcases hm with hm | hm <;> simp [rxEntries, ho, hq, hm, hparity rfl, popHead, State.setLine_setLine]

/-- A block order closes on a break (R69). -/
theorem rxEntries_break (hm : o.mode = .block ∨ o.mode = .blockEcho) (hq : k.queue = .brk overrun :: rest) :
    rxEntries (q + 1) (s.setLine n k) v = closeRx (s.setLine n k.pop) v o codeBreak 0 := by
  subst hv
  rcases hm with hm | hm <;> simp [rxEntries, ho, hq, hm, popHead, State.setLine_setLine]

/-- RX FRAME closes at the FRAME_END of its frame (R117). -/
theorem rxEntries_frameEnd {st : FrameStatus} (hm : o.mode = .frame) (hr : k.remnant = false)
    (hq : k.queue = .frameEnd st :: rest) :
    rxEntries (q + 1) (s.setLine n k) v = closeRx (s.setLine n k.pop) v o (frameCode o st) 0 := by
  subst hv
  simp [rxEntries, ho, hq, hm, hr, popHead, State.setLine_setLine]

/-- RX FRAME stores a byte of its frame (R117). -/
theorem rxEntries_frame_stores (hm : o.mode = .frame) (hr : k.remnant = false)
    (hq : k.queue = .data value parity framing overrun classes :: rest) (hc : o.count ≠ o.length) :
    rxEntries (q + 1) (s.setLine n k) v =
      issueStore (s.setLine n { k with rxOrder := some { o with frameBegun := true } }) v o q value := by
  subst hv
  simp [rxEntries, ho, hq, hm, hr, hc, setRxOrder, State.setLine_setLine]

/-- RX FRAME discards a byte met at LENGTH (R117). -/
theorem rxEntries_frame_overlong (hm : o.mode = .frame) (hr : k.remnant = false)
    (hq : k.queue = .data value parity framing overrun classes :: rest) (hc : o.count = o.length) :
    rxEntries (q + 1) (s.setLine n k) v =
      rxEntries q
        (s.setLine n { k with rxOrder := some { o with overlong := true, frameBegun := true } }.pop) v := by
  subst hv
  simp [rxEntries, ho, hq, hm, hr, hc, setRxOrder, popHead, State.setLine_setLine]

/-- RX FRAME discards the entries of a remnant (R119). -/
theorem rxEntries_remnant (hm : o.mode = .frame) (hr : k.remnant = true) (hq : k.queue = e :: rest)
    (he : ∀ overrun, e ≠ .brk overrun) :
    rxEntries (q + 1) (s.setLine n k) v = rxEntries q (s.setLine n k.pop) v := by
  subst hv
  cases e with
  | brk x => exact absurd rfl (he x)
  | data => simp [rxEntries, ho, hq, hm, hr, popHead, State.setLine_setLine]
  | frameEnd => simp [rxEntries, ho, hq, hm, hr, popHead, State.setLine_setLine]

/-! ### The idle test (R76) -/

theorem rxIdleTest_quiet (h : o.mode ≠ .block ∨ k.idleDue = false) :
    rxIdleTest (s.setLine n k) v = txStep (s.setLine n k) v := by
  subst hv
  simp only [rxIdleTest, State.line_setLine_self, ho]
  rw [if_neg (by simpa using h.neg_resolve_left)]

theorem rxIdleTest_clears (hm : o.mode = .block) (hi : k.idleDue = true) (hc : o.count = 0) :
    rxIdleTest (s.setLine n k) v = txStep (s.setLine n { k with idleDue := false }) v := by
  subst hv
  simp [rxIdleTest, ho, hm, hi, hc, State.setLine_setLine]

theorem rxIdleTest_closes (hm : o.mode = .block) (hi : k.idleDue = true) (hc : o.count ≠ 0) (hq : k.queue = []) :
    rxIdleTest (s.setLine n k) v = closeRx (s.setLine n { k with idleDue := false }) v o codeIdle 0 := by
  subst hv
  simp only [rxIdleTest, State.line_setLine_self, ho, State.onLine_setLine]
  rw [if_pos ⟨hm, hi⟩, if_neg hc, hq]
  rfl

end

/-! ### O39 -/

/-- Settles O39: the visit does the RX step on the line picked; the idle test, a cancel and each kind of head entry then
lead to the close, the store or the visit's end that the clause names. -/
theorem receiveOrdersServeTheHeadEntry : Obligations.ReceiveOrdersServeTheHeadEntry := by
  unfold Obligations.ReceiveOrdersServeTheHeadEntry
  intro n s hs hp l hst hl o ho v u block close used noTx
  have rests (k : Line) (hk : k = { l with
      attn := k.attn, rxCancel := k.rxCancel, remnant := k.remnant, idleDue := k.idleDue, queue := k.queue
      pacing := k.pacing, rxOrder := k.rxOrder }) : k.atRest u := by
    rw [hk]
    exact Line.atRest_of_agrees (l := l) hl rfl rfl rfl rfl rfl rfl rfl rfl rfl (Or.inr (Or.inl rfl))
  have closes (k : Line) (long begun : Bool) (hk : k.atRest u) (hc : k.rxCancel = false) (code : BitVec 5)
      (datum : Byte) :
      closeRx (u.setLine n k) (snapshot s n) { o with overlong := long, frameBegun := begun } code datum =
        close k datum code := by
    have hk' : { k with rxCancel := false } = k := by
      cases k
      cases hc
      rfl
    have := closeRx_setLine (v := snapshot s n) rfl hk { o with overlong := long, frameBegun := begun } code datum
    rw [hk'] at this
    exact this
  have ends (k : Line) (hk : k.txOrder = none) (hn : noTx) :
      txStep (u.setLine n k) (snapshot s n) = { u.setLine n k with mem := none } := by
    obtain ⟨-, hc, ha, hreq⟩ := hn
    obtain ⟨hseq, hpower, hvisit, -⟩ := hp
    have hline : (u.setLine n k).line (snapshot s n).line = k := State.line_setLine_self u n k
    rw [txStep_of_nothing (by rw [hline, hk]) hc ha]
    exact endVisit_begun rfl hseq hpower hvisit hreq
  have serves {t : State} (quota : Nat) (hquota : rxQuotaOf o.mode = quota) (hc : l.rxCancel = false)
      (e : rxEntries quota (u.setLine n { l with attn := false, idleDue := l.idleDue && !used }) (snapshot s n) = t) :
      Leads (exec .visit s) t :=
    leads_visit hs hp hst (Eq.trans (rxStep_order rfl ho hc) (hquota ▸ e))
  refine ⟨fun hc => ?_, fun hc hm hq hi => ⟨fun hcount => ?_, fun hcount hn => ?_⟩, ?_⟩
  · -- A cancel (R80, R120).
    refine leads_visit hs hp hst (Eq.trans (rxStep_cancel rfl ho hc) ?_)
    exact closeRx_setLine (v := snapshot s n) rfl (by exact rests _ rfl) o codeCancelled 0
  · -- The idle test with something stored (R76).
    have hidle : (l.idleDue && !used) = true := by simp [used, hm, hi]
    refine serves _ rfl hc (Eq.trans (rxEntries_nil rfl ho hq) ?_)
    refine Eq.trans (rxIdleTest_closes rfl ho hm hidle hcount hq) ?_
    exact closes _ _ _ (by exact rests _ rfl) (by exact hc) codeIdle 0
  · -- The idle test with nothing stored (R76).
    have hidle : (l.idleDue && !used) = true := by simp [used, hm, hi]
    refine serves _ rfl hc (Eq.trans (rxEntries_nil rfl ho hq) ?_)
    exact Eq.trans (rxIdleTest_clears rfl ho hm hidle hcount) (ends _ hn.1 hn)
  intro e rest hc hq taken
  have popped : ({ l with attn := false, idleDue := l.idleDue && !used } : Line).pop = taken := Line.pop_cons hq
  have quota (hm : o.mode ≠ .single) : rxQuotaOf o.mode = 4 := by
    cases hm' : o.mode with
    | single => exact absurd hm' hm
    | block | blockEcho | frame => rfl
  have quotaBlock (hm : o.mode = .block ∨ o.mode = .blockEcho) : rxQuotaOf o.mode = 4 :=
    quota (by rcases hm with hm | hm <;> rw [hm] <;> nofun)
  have closesTaken (code : BitVec 5) (datum : Byte) :
      closeRx (u.setLine n ({ l with attn := false, idleDue := l.idleDue && !used } : Line).pop) (snapshot s n) o code
        datum = close taken datum code := by
    rw [popped]
    exact closes taken _ _ (by exact rests _ rfl) (by exact hc) code datum
  refine ⟨?_, ?_, ?_, ?_, ?_, ?_, ?_⟩
  · -- RX SINGLE (Table 23).
    intro hm code datum he
    refine serves 1 (by rw [hm]; rfl) hc (Eq.trans (rxEntries_single rfl (by exact ho) hm (by exact hq)) ?_)
    have hclosure : singleClosure e = (code, datum) := by
      cases e with
      | brk x =>
        obtain ⟨rfl, rfl⟩ := he
        rfl
      | data value parity framing overrun classes =>
        obtain ⟨rfl, rfl⟩ := he
        cases framing <;> cases parity <;> cases overrun <;> rfl
      | frameEnd st => exact he.elim
    rw [hclosure]
    exact closesTaken code datum
  · -- A block order stores a character without error (R71).
    intro hm value overrun classes he
    subst he
    exact serves 4 (quotaBlock hm) hc (Eq.trans (rxEntries_stores rfl (by exact ho) hm (by exact hq)) rfl)
  · -- A block order closes on an error character (R69).
    intro hm value parity framing overrun classes he herror
    subst he
    refine serves 4 (quotaBlock hm) hc (Eq.trans (rxEntries_error rfl (by exact ho) hm (by exact hq) herror) ?_)
    exact closesTaken _ value
  · -- A block order closes on a break (R69).
    intro hm overrun he
    subst he
    refine serves 4 (quotaBlock hm) hc (Eq.trans (rxEntries_break rfl (by exact ho) hm (by exact hq)) ?_)
    exact closesTaken codeBreak 0
  · -- RX FRAME closes at a FRAME_END (R117).
    intro hm hr st he code
    subst he
    refine serves 4 (quota (by rw [hm]; nofun)) hc (Eq.trans
      (rxEntries_frameEnd (n := n) (v := snapshot s n) rfl (by exact ho) hm (by exact hr) (by exact hq)) ?_)
    have hcode : frameCode o st = code := by
      cases st <;> cases hlong : o.overlong <;> simp [frameCode, hlong, code] <;> rfl
    rw [hcode]
    exact closesTaken code 0
  · -- RX FRAME stores a byte, or discards one met at LENGTH (R117).
    intro hm hr value parity framing overrun classes he
    subst he
    have hframe : rxQuotaOf o.mode = 4 := quota (by rw [hm]; nofun)
    have hidle : (l.idleDue && !used) = false := by simp [used, hm]
    refine ⟨fun hcount => ?_, fun hcount => ?_⟩
    · refine serves 4 hframe hc (Eq.trans
        (rxEntries_frame_stores rfl (by exact ho) hm (by exact hr) (by exact hq) hcount) ?_)
      rw [hidle]
      rfl
    · intro marked
      have hdiscard : rxEntries 4 (u.setLine n { l with attn := false, idleDue := l.idleDue && !used }) (snapshot s n) =
          rxEntries 3 (u.setLine n marked) (snapshot s n) := by
        refine Eq.trans (rxEntries_frame_overlong rfl (by exact ho) hm (by exact hr) (by exact hq) hcount) ?_
        rw [Line.pop_cons (by exact hq)]
      refine ⟨fun hrest hn => ?_, fun more hmore => ?_⟩
      · refine serves 4 hframe hc (hdiscard.trans ?_)
        refine Eq.trans (rxEntries_nil rfl rfl (by exact hrest)) ?_
        exact Eq.trans (rxIdleTest_quiet rfl rfl (Or.inr (by exact hidle))) (ends marked hn.1 hn)
      · have hr' : marked.remnant = false := by simp [marked, taken, hr]
        refine serves 4 hframe hc (hdiscard.trans ?_)
        refine Eq.trans
          (rxEntries_frameEnd (n := n) (v := snapshot s n) (o := { o with overlong := true, frameBegun := true }) rfl
            rfl hm hr' (by exact hmore)) ?_
        rw [Line.pop_cons (by exact hmore), hr', Bool.false_and, frameCode, if_pos ⟨rfl, rfl⟩, ← hr']
        refine Eq.trans (closes _ true true (by exact rests _ rfl) (by exact hc) codeOverlong 0) ?_
        rfl
  · -- RX FRAME discards a remnant (R119).
    intro hm hr hrest hn he
    have hidle : (l.idleDue && !used) = false := by simp [used, hm]
    refine serves 4 (quota (by rw [hm]; nofun)) hc (Eq.trans (rxEntries_remnant rfl (by exact ho) hm (by exact hr)
      (by exact hq) he) ?_)
    rw [popped]
    refine Eq.trans (rxEntries_nil rfl ho (by exact hrest)) ?_
    exact Eq.trans (rxIdleTest_quiet rfl ho (Or.inr (by exact hidle))) (ends taken hn.1 hn)

end Sys2Proof.Machine
end


section
/-! What a visit begins with (R32, R36, R37): the status change it tells and the order word it reads, also where it
stands at the instant of a beat boundary of which other things are still due (log entries 30 and 32). -/

namespace Sys2Proof.Machine

variable {s t u : State} {l k : Line} {n : LineNo} {v : Visit}

/-! ### The choice at the instant of a beat boundary (R34) -/

/-- A visit begins before the resweep and the SENSE levels of its instant have acted. -/
theorem exec_visit_now (hholds : s.holdsDue = false) (htick : s.tickDue = false) (hguard : s.guardDue = false)
    (hp : s.picksNow n) : exec .visit s = .next (beginVisit s.watchIdle n).watchIdle := by
  obtain ⟨hseq, hpower, hvisit, hn, hfirst⟩ := hp
  have hmay : s.mayVisit = true := by simp [State.mayVisit, hseq, hpower, hvisit]
  have htimeout : s.timeoutDue = false := by simp [State.timeoutDue, hvisit]
  rw [exec_visit, expiry, State.finishGuard_of_due hholds htimeout htick hguard,
    visitNow_of_some (State.firstLine_eq_some hn hfirst) hmay]

/-- Such a visit leads to what it leads to whatever the idle watch has counted. -/
theorem leads_visitNow (hholds : s.holdsDue = false) (htick : s.tickDue = false) (hguard : s.guardDue = false)
    (hp : s.picksNow n) (e : ∀ k, beginVisit { s with idleBeats := k } n = { u with idleBeats := k })
    (hu : u.idleBeats = s.idleBeats) : Leads (exec .visit s) u := by
  rw [exec_visit_now hholds htick hguard hp, State.watchIdle_eq s, e]
  refine ⟨_, rfl, State.watchIdle_agrees_of _ rfl ?_⟩
  rw [hu]
  exact ite_eq_or_eq _ _ _

/-! ### Order words read at once (R37, R38, R43) -/

theorem rxStep_fetches (ho : (s.line v.line).rxOrder = none) (h : v.rxCancel = true ∨ v.attn = true) :
    rxStep s v = issueFetch s v .rx v.rxCancel := by
  cases hc : v.rxCancel with
  | true => simp [rxStep, ho, hc]
  | false => simp [rxStep, ho, hc, h.resolve_left (by simp [hc])]

theorem rxStep_of_nothing (ho : (s.line v.line).rxOrder = none) (hc : v.rxCancel = false) (ha : v.attn = false) :
    rxStep s v = txStep s v := by
  simp [rxStep, ho, hc, ha]

theorem txStep_fetches (ho : (s.line v.line).txOrder = none) (h : v.txCancel = true ∨ v.attn = true) :
    txStep s v = issueFetch s v .tx v.txCancel := by
  cases hc : v.txCancel with
  | true => simp [txStep, ho, hc]
  | false => simp [txStep, ho, hc, h.resolve_left (by simp [hc])]

/-! ### The STATUS step (R36) -/

/-- The STATUS event's flags are the level told and whether it is another than the one told before (R132). -/
theorem statusEvent_eq (n : LineNo) (l : Line) (level : Bool) (count : Nat) :
    statusEvent n l level count =
      { kind := .status, line := n
        a := 0#5 ++ BitVec.ofBool (level != l.lastReported) ++ BitVec.ofBool level
        b := BitVec.ofNat 8 count, c := 0, age := 0 } := by
  unfold statusEvent
  generalize l.lastReported = told
  congr 1
  revert level told
  decide

/-- What the STATUS step tells is the level and the changes that stood before the instant (R36). -/
theorem Line.pendingBefore_eq (l : Line) :
    l.pendingBefore =
      if l.countBefore.isSome then decide (0 < l.countBefore.getD l.changeCount) else l.statusPending := by
  cases h : l.countBefore <;> simp [Line.pendingBefore, h]

theorem Line.senseBefore_eq (l : Line) : l.senseBefore = if l.countBefore.isSome then !l.sense else l.sense := by
  cases h : l.countBefore <;> cases hs : l.sense <;> simp [Line.senseBefore, h, hs]

theorem Line.reportStatus_eq (l : Line) :
    l.reportStatus =
      { l with
        statusPending := l.countBefore.isSome
        changeCount := if l.countBefore.isSome then 1 else 0
        countBefore := if l.countBefore.isSome then some 0 else none
        lastReported := if l.countBefore.isSome then !l.sense else l.sense } := by
  rw [Line.reportStatus, Line.senseBefore_eq]
  cases l.countBefore <;> rfl

theorem State.offer_setLine (s : State) (n : LineNo) (k : Line) (e : EventRec) :
    (s.setLine n k).offer e = (s.offer e).setLine n k := by
  rw [State.offer_cases, State.offer_cases, State.setLine_events]
  split <;> rfl

/-- A pending change is told with one STATUS event and leaves the line's record of what it has told (R36). -/
theorem statusStep_setLine (h : k.pendingBefore = true) :
    statusStep (s.setLine n k) n =
      (s.offer (statusEvent n k k.senseBefore k.changesBefore)).setLine n k.reportStatus := by
  rw [statusStep, State.line_setLine_self, if_pos h, State.offer_setLine, State.onLine_setLine]

/-- The STATUS step leaves the orders and the table address. -/
theorem statusStep_keeps (s : State) (n : LineNo) :
    ((statusStep s n).line n).rxOrder = (s.line n).rxOrder ∧ ((statusStep s n).line n).txOrder = (s.line n).txOrder ∧
      (statusStep s n).tableBase = s.tableBase := by
  unfold statusStep
  split
  · rw [State.onLine_eq, State.line_setLine_self, State.offer_line, State.offer_eq]
    exact ⟨rfl, rfl, rfl⟩
  · exact ⟨rfl, rfl, rfl⟩

/-- Settles O38: the visit begins before what else is due at its instant; the STATUS step tells what stood before that
instant, and the RX and TX steps read the order words. -/
theorem visitReportsStatusAndFetches : Obligations.VisitReportsStatusAndFetches := by
  unfold Obligations.VisitReportsStatusAndFetches
  intro n s hholds htick hguard hp l now level count pending v e told rxWord txWord
  have hpending : l.pendingBefore = pending := Line.pendingBefore_eq l
  have hevent : statusEvent n { l with attn := false } l.senseBefore l.changesBefore = e := by
    rw [statusEvent_eq, Line.senseBefore_eq]
    rfl
  have htold (k : Nat) :
      statusStep (({ s with idleBeats := k, position := n } : State).setLine n { l with attn := false }) n =
        { told with idleBeats := k } := by
    by_cases hnow : pending = true
    · refine Eq.trans (statusStep_setLine (by exact hpending.trans hnow)) ?_
      rw [Line.reportStatus_eq]
      refine Eq.trans (congrArg (fun e => (State.offer _ e).setLine n _) hevent) ?_
      simp only [told, hnow, if_true, State.offer_cases]
      split <;> rfl
    · rw [statusStep_of_none]
      · simp only [told, hnow, Bool.false_eq_true, if_false]
        rfl
      · rw [State.line_setLine_self]
        exact hpending.trans (by simpa using hnow)
  have hkept : told.idleBeats = s.idleBeats ∧ (told.line n).rxOrder = l.rxOrder ∧
      (told.line n).txOrder = l.txOrder ∧ told.tableBase = s.tableBase := by
    have hline (k : Line) := State.line_setLine_self ({ s with position := n } : State) n k
    obtain ⟨hrx, htx, hbase⟩ :=
      statusStep_keeps (({ s with position := n } : State).setLine n { l with attn := false }) n
    rw [hline] at hrx htx
    rw [htold s.idleBeats] at hrx htx hbase
    refine ⟨?_, hrx, htx, hbase⟩
    simp only [told]
    split_ifs <;> rfl
  obtain ⟨hbeats, hrx, htx, hbase⟩ := hkept
  have begins (point : VisitPoint) (request : MemRequest) (offset : Nat) (access : AccessKind)
      (h : ∀ k, rxStep { told with idleBeats := k } v =
        ({ told with idleBeats := k } : State).issue v point request (told.blockWord n offset) access) :
      Leads (exec .visit s)
        (told.issue v point request (s.tableBase + BitVec.ofNat 32 (64 * n.val + offset)) access) := by
    have hword : told.blockWord n offset = s.tableBase + BitVec.ofNat 32 (64 * n.val + offset) := by
      rw [State.blockWord, hbase]
    rw [← hword]
    refine leads_visitNow hholds htick hguard hp (fun k => ?_) hbeats
    refine Eq.trans ?_ (h k)
    rw [← htold k]
    rfl
  refine ⟨fun ho hc => ?_, fun ho hc ha => ?_, fun ho hc ha hto htc => ?_⟩
  · refine begins _ _ 0 _ fun k => ?_
    refine Eq.trans (rxStep_fetches (by exact hrx.trans ho) (Or.inl hc)) ?_
    simp only [v, hc]
    rfl
  · refine begins _ _ 0 _ fun k => ?_
    refine Eq.trans (rxStep_fetches (by exact hrx.trans ho) (Or.inr ha)) ?_
    simp only [v, hc]
    rfl
  · refine begins _ _ 0x10 _ fun k => ?_
    rw [rxStep_of_nothing (by exact hrx.trans ho) hc ha]
    refine Eq.trans (txStep_fetches (by exact htx.trans hto) (Or.inl htc)) ?_
    simp only [v, htc]
    rfl

end Sys2Proof.Machine
end


section
/-! What the round robin leaves of the part once a visit has begun, whatever the visit then does (R32, R34, R41). -/

namespace Sys2Proof.Machine

variable {s t u : State} {n : LineNo} {v : Visit}

/-- A visit's steps leave the round-robin position, the resweep, the other lines and the flags that its beginning
cleared, and a visit in progress is still the one that began. -/
structure State.Served (s : State) (v : Visit) (t : State) : Prop where
  position : t.position = s.position
  resweep : t.resweepDue = s.resweepDue
  marks : (t.line v.line).attn = (s.line v.line).attn ∧
    (t.line v.line).statusPending = (s.line v.line).statusPending
  others : ∀ m, m ≠ v.line → t.line m = s.line m
  visit : ∀ x, t.visit = some x → ∃ p, x = { v with point := p }

/-- A visit that ends while the sequencer is RUNNING leaves every line as it is. -/
theorem State.served_endVisit (hr : v.resetHeld = false) (hseq : s.seq = .running) : s.Served v (endVisit s v) := by
  have hend : endVisit s v = State.enterRequestedDoze { s with visit := none, mem := none } := by
    unfold endVisit
    rw [hr]
    simp [State.settleSeq, hseq]
  rw [hend, State.enterRequestedDoze_eq]
  exact ⟨rfl, rfl, ⟨rfl, rfl⟩, fun _ _ => rfl, nofun⟩

theorem Within.served (hw : Within v.line s t) (h : t.Served v u) : s.Served v u :=
  ⟨h.position.trans (hw.field State.position fun _ => rfl),
    h.resweep.trans (hw.field State.resweepDue fun _ => rfl),
    ⟨h.marks.1.trans hw.line.marks.1, h.marks.2.trans hw.line.marks.2⟩,
    fun m hm => (h.others m hm).trans (hw.other m hm), h.visit⟩

/-- Whatever a visit comes to while the sequencer is RUNNING. -/
theorem Proceeds.served (hp : Proceeds s v t) (hr : v.resetHeld = false) (hseq : s.seq = .running) :
    s.Served v t := by
  have hrunning {u : State} (hw : Within v.line s u) : u.seq = .running := (hw.field State.seq fun _ => rfl).trans hseq
  cases hp with
  | issues hw p r a k _ =>
    refine hw.served ⟨rfl, rfl, ⟨rfl, rfl⟩, fun _ _ => rfl, fun x hx => ⟨p, ?_⟩⟩
    exact (Option.some.inj hx).symm
  | ends hw => exact hw.served (State.served_endVisit hr (hrunning hw))
  | @fails u hw x cause =>
    have hline : ((u.onLine v.line fun l => Line.tend u l.fail).offer (lineFaultEvent x cause)).line v.line =
        Line.tend u (u.line v.line).fail := by
      rw [State.offer_line, State.onLine_eq, State.line_setLine_self]
    have hseq' : ((u.onLine v.line fun l => Line.tend u l.fail).offer (lineFaultEvent x cause)).seq = .running :=
      (State.offer_seq _).trans (hrunning (u := u) hw)
    obtain ⟨hposition, hresweep, hmarks, hothers, hvisit⟩ := State.served_endVisit hr hseq'
    rw [hline] at hmarks
    refine hw.served ⟨hposition.trans ?_, hresweep.trans ?_, ⟨hmarks.1.trans ?_, hmarks.2.trans ?_⟩,
      fun m hm => (hothers m hm).trans ?_, hvisit⟩
    · rw [State.offer_eq]
      rfl
    · rw [State.offer_eq]
      rfl
    · rw [Line.tend_eq]
      rfl
    · rw [Line.tend_eq]
      rfl
    · rw [State.offer_line, State.onLine_eq, State.line_setLine_ne _ _ _ _ hm.symm]

/-- What a visit's beginning leaves: its line's flags cleared, and all else as it was. -/
theorem State.begun_spec (s : State) (n : LineNo) :
    (s.begun n).position = n ∧ (s.begun n).resweepDue = s.resweepDue ∧ (s.begun n).seq = s.seq ∧
      ((s.begun n).line n).attn = false ∧
      ((s.line n).countBefore = none → ((s.begun n).line n).statusPending = false) ∧
      ∀ m, m ≠ n → (s.begun n).line m = s.line m := by
  rcases s.begun_cases n with ⟨hpending, h⟩ | ⟨-, e, -, h⟩ <;> rw [h]
  · rw [State.line_setLine_self]
    refine ⟨rfl, rfl, rfl, rfl, fun hnone => ?_, fun m hm => State.line_setLine_ne _ _ _ _ hm.symm⟩
    rwa [(Line.before_of_none hnone).2.2] at hpending
  · rw [State.line_setLine_self]
    refine ⟨?_, ?_, ?_, rfl, fun hnone => ?_, fun m hm => ?_⟩
    · rw [State.offer_eq]
      rfl
    · rw [State.offer_eq]
      rfl
    · exact State.offer_seq e
    · simp [Line.reportStatus, hnone]
    · rw [State.line_setLine_ne _ _ _ _ hm.symm, State.offer_line]
      exact State.line_setLine_ne _ _ _ _ hm.symm

/-- The idle watch changes none of this. -/
theorem State.served_watchIdle (h : s.Served v t) : s.Served v t.watchIdle := by
  rw [State.watchIdle_eq]
  exact ⟨h.position, h.resweep, h.marks, h.others, h.visit⟩

/-- Settles O37: the visit begins at the line picked, and whatever it comes to leaves the position, the flags its
beginning cleared and the other lines; a resweep of the instant is still due then. -/
theorem visitFollowsTheRoundRobin : Obligations.VisitFollowsTheRoundRobin := by
  unfold Obligations.VisitFollowsTheRoundRobin
  have served (s : State) (n : LineNo) (hseq : s.seq = .running) :
      (s.begun n).Served (snapshot s n) (beginVisit s n).watchIdle := by
    obtain ⟨-, -, hbegun, -⟩ := s.begun_spec n
    exact State.served_watchIdle ((proceeds_beginVisit s n).served rfl (hbegun.trans hseq))
  refine ⟨fun s hs => ⟨fun n hp => ?_, fun hnone => ?_, fun hnot => ?_⟩, ?_⟩
  · -- The line picked (R34).
    obtain ⟨hposition, -, hmarks, hothers, hvisit⟩ := served s n hp.1
    obtain ⟨hat, -, -, hattn, hpending, hrest⟩ := s.begun_spec n
    refine ⟨_, exec_visit_picked hs hp, hposition.trans hat, hmarks.1.trans hattn,
      hmarks.2.trans (hpending (State.countBefore_of_settled hs n)), fun x hx => ?_,
      fun m hm => (hothers m hm).trans (hrest m hm)⟩
    obtain ⟨p, rfl⟩ := hvisit x hx
    exact ⟨rfl, rfl, rfl, rfl, rfl⟩
  · -- No line needs service.
    have hchoose : s.chooseLine = none := by
      simp [State.chooseLine, State.firstLine, List.find?_eq_none, hnone]
    refine ⟨s.watchIdle, ?_, s.watchIdle_agrees⟩
    simp [exec_visit, expiry, State.finishGuard_settled hs, visitNow_settled hs, nextVisit, hchoose]
  · -- The sequencer may not choose.
    have hmay : s.mayVisit = false := by
      rcases hnot with h | h | h <;> simp [State.mayVisit, ← Option.not_isSome, h]
    refine ⟨s.watchIdle, ?_, s.watchIdle_agrees⟩
    simp [exec_visit, expiry, State.finishGuard_settled hs, visitNow_settled hs, nextVisit, hmay]
  · -- A resweep of this instant (log entry 30).
    intro s n hholds htick hguard hresweep hp
    have hwatch : s.watchIdle.seq = s.seq ∧ s.watchIdle.resweepDue = s.resweepDue ∧
        ∀ m, s.watchIdle.line m = s.line m := by
      rw [State.watchIdle_eq]
      exact ⟨rfl, rfl, fun _ => rfl⟩
    obtain ⟨hseq, hdue, hlines⟩ := hwatch
    obtain ⟨hposition, hresweep', hmarks, hothers, hvisit⟩ := served s.watchIdle n (hseq.trans hp.1)
    obtain ⟨hat, hdue', -, hattn, -, hrest⟩ := s.watchIdle.begun_spec n
    have hstill : (beginVisit s.watchIdle n).watchIdle.resweepDue = true :=
      hresweep'.trans (hdue'.trans (hdue.trans hresweep))
    refine ⟨_, exec_visit_now hholds htick hguard hp, hposition.trans hat, hstill, hmarks.1.trans hattn,
      fun x hx => ?_, fun m hm => ((hothers m hm).trans (hrest m hm)).trans (hlines m),
      _, exec_resweepExpiry _, fun m => ?_⟩
    · obtain ⟨p, rfl⟩ := hvisit x hx
      exact ⟨rfl, congrArg Line.attn (hlines n)⟩
    · have hline (x : State) : x.watchIdle.line m = x.line m := by
        rw [State.watchIdle_eq]
        rfl
      rw [hline, State.expireResweep_line, if_pos hstill]
      rfl

end Sys2Proof.Machine
end


section
/-! The TX step as equations over the visited line (R84 to R94, R123, R125): each item of R84 closes the order, loads,
starts a break, takes up a setting, or ends the visit. -/

namespace Sys2Proof.Machine

variable {s u : State} {l k : Line} {n : LineNo} {v : Visit} {o : TxOrder}

/-! ### Lines at rest -/

/-- Tending reads the rate register and whether the part is QUIESCED. -/
theorem Line.tend_congr (hdivisor : u.customDivisor = s.customDivisor) (hseq : u.seq = s.seq) (l : Line) :
    Line.tend u l = Line.tend s l := by
  unfold Line.tend Line.feedShifter State.formatOf
  rw [hdivisor, hseq]

/-- A line at rest with nothing in holding has its hold timer at 0 (R62). -/
theorem Line.holdTimer_of_holding_none (h : l.atRest s) (hn : l.holding = none) :
    l.holdCount = 0 ∧ l.holdStopped = false :=
  (Line.atRest_iff.1 h).2 (by simp [Line.holdTimed, hn])

/-- A line at rest with a byte in holding has a busy shifter or is in hold state (R55). -/
theorem Line.busy_of_holding {h : Holding} (hl : l.atRest s) (hh : l.holding = some h) :
    l.shifter ≠ .empty ∨ l.inHold = true := by
  rcases (Line.atRest_iff.1 hl).1 with h1 | h1 | ⟨-, -, h1⟩
  · exact .inl h1
  · exact .inr h1
  · rw [hh] at h1
    cases h1

/-- A line at rest with a free shifter out of hold state owes nothing (R55, R122, R123). -/
theorem Line.idle_of_free (hl : l.atRest s) (hs : l.shifter = .empty) (hh : l.inHold = false) :
    l.abortPending = false ∧ l.underruns (s.seq == .quiesced) = false ∧ l.holding = none := by
  rcases (Line.atRest_iff.1 hl).1 with h1 | h1 | h1
  · exact absurd hs h1
  · rw [hh] at h1
    cases h1
  · exact h1

/-! ### Closes of a transmit order -/

/-- A transmit order closes with its length word, where its mode writes one, or its order word (R16, R17). -/
theorem closeTx_tended (hv : v.line = n) (o : TxOrder) (code : BitVec 5) (datum : Byte) :
    closeTx (s.setLine n k) v o code datum =
      if o.mode = .block ∨ o.mode = .frame then
        (s.setLine n (Line.tend s (k.beginClose .tx))).issue v (.writeLength .tx (txClosed o datum code))
          (.wordWrite (o.count ++ o.length)) (s.tableBase + BitVec.ofNat 32 (64 * n.val + 0x18)) .txWriteback
      else
        (s.setLine n (Line.tend s (k.beginClose .tx))).issue v (.writeOrder .tx (txClosed o datum code))
          (.wordWrite (txClosed o datum code)) (s.tableBase + BitVec.ofNat 32 (64 * n.val + 0x10)) .txWriteback := by
  subst hv
  unfold closeTx beginClose txCloseLength
  simp only [State.onLine_setLine]
  cases o.mode <;> rfl

/-- An order that discards its own byte no longer counts it (R85, R93, R94). -/
theorem Line.withdraw_own (h : l.ownByte = true) :
    l.withdraw o =
      { l with
        holding := none
        ownByte := false
        abortPending := l.abortPending || l.orderFrameOpen o
        txOrder := some { o with count := o.count - 1 } } := by
  simp [Line.withdraw, Line.discardOwn, TxOrder.uncount, h]

theorem Line.withdraw_other (h : l.ownByte = false) :
    l.withdraw o =
      { l with abortPending := l.abortPending || l.orderFrameOpen o, txOrder := some o } := by
  simp [Line.withdraw, Line.discardOwn, TxOrder.uncount, h]

/-! ### The items of R84 -/

section
variable (hv : v.line = n)
include hv

theorem txStep_cancel (ho : k.txOrder = some o) (hc : v.txCancel = true) :
    txStep (s.setLine n k) v =
      closeTx (s.setLine n (k.withdraw o)) v (o.uncount k.ownByte) codeCancelled 0 := by
  subst hv
  simp only [txStep, State.line_setLine_self, ho, hc, if_true, cancelTx, State.onLine_setLine]

theorem txStep_order (ho : k.txOrder = some o) (hc : v.txCancel = false) :
    txStep (s.setLine n k) v = txMode (s.setLine n k) v o := by
  subst hv
  simp [txStep, ho, hc]

theorem txMode_underrun (hu : k.underrunDue = true) :
    txMode (s.setLine n k) v o = closeTx (s.setLine n k) v o codeUnderrun 0 := by
  subst hv
  simp [txMode, hu]

theorem txMode_hold (hu : k.underrunDue = false) (hh : k.holdDue = true) :
    txMode (s.setLine n k) v o =
      closeTx (s.setLine n (k.withdraw o)) v (o.uncount k.ownByte) codeHoldTimeout k.heldDatum := by
  subst hv
  simp only [txMode, State.line_setLine_self, hu, hh, Bool.false_eq_true, if_false, if_true, holdTimeout,
    State.onLine_setLine]

theorem txMode_broken (hu : k.underrunDue = false) (hh : k.holdDue = false) (hb : k.breakDone = true)
    (hm : o.mode = .brk) (hs : o.breakStarted = true) :
    txMode (s.setLine n k) v o = closeTx (s.setLine n k) v o codeDone o.datum := by
  subst hv
  simp [txMode, hu, hh, hb, hm, hs]

theorem txMode_clears (hu : k.underrunDue = false) (hh : k.holdDue = false) (hb : k.breakDone = true)
    (hm : o.mode ≠ .brk ∨ o.breakStarted = false) :
    txMode (s.setLine n k) v o = txAdvance (s.setLine n { k with breakDone := false }) v o := by
  subst hv
  simp only [txMode, State.line_setLine_self, hu, hh, hb, Bool.false_eq_true, if_false, if_true,
    State.onLine_setLine]
  rw [if_neg]
  rintro ⟨h1, h2⟩
  rcases hm with hm | hm
  · exact hm h1
  · exact absurd (hm.symm.trans h2) nofun

theorem txMode_quiet (hu : k.underrunDue = false) (hh : k.holdDue = false) (hb : k.breakDone = false) :
    txMode (s.setLine n k) v o = txAdvance (s.setLine n k) v o := by
  subst hv
  simp [txMode, hu, hh, hb]

theorem txAdvance_single (hm : o.mode = .single) (hn : k.holding = none) :
    txAdvance (s.setLine n k) v o =
      closeTx
        (s.setLine n (Line.tend s
          { k with holding := some { byte := o.datum, first := false, last := false, source := .order } }))
        v o codeDone o.datum := by
  subst hv
  simp only [txAdvance, hm, State.line_setLine_self, hn, Option.isNone_none, if_true, loadSingle,
    State.onLine_setLine]
  rfl

theorem txAdvance_load (hm : o.mode = .block ∨ o.mode = .frame) (hn : k.holding = none) :
    txAdvance (s.setLine n k) v o =
      (s.setLine n k).issue v .loadByte .byteRead (o.address + o.count.setWidth 32) .txBuffer := by
  subst hv
  rcases hm with hm | hm <;>
    simp only [txAdvance, hm, State.line_setLine_self, hn, Option.isNone_none, if_true, issueLoad]

theorem txAdvance_break (hm : o.mode = .brk) (hw : k.drainWait = true) (hd : k.drained = true) :
    txAdvance (s.setLine n k) v o =
      endVisit
        (s.setLine n
          { k with
            drainWait := false
            txOrder := some { o with breakStarted := true }
            shifter := .brk o.datum (s.formatOf k) 0 (setLoop k.setting) })
        v := by
  subst hv
  simp only [txAdvance, hm, State.line_setLine_self, hw, hd, Bool.and_self, if_true, startBreak,
    State.onLine_setLine]
  rfl

theorem txAdvance_waits (hm : o.mode = .brk ∨ o.mode = .setting) (h : k.drainWait = false ∨ k.drained = false) :
    txAdvance (s.setLine n k) v o = endVisit (s.setLine n k) v := by
  subst hv
  have hwait : (k.drainWait && k.drained) = false := by rcases h with h | h <;> simp [h]
  rcases hm with hm | hm <;> simp [txAdvance, hm, hwait]

theorem txAdvance_refuses (hm : o.mode = .setting) (hw : k.drainWait = true) (hd : k.drained = true)
    (hf : setFramed o.settingWord ≠ k.framed) (hr : k.rxOrder.isSome = true) :
    txAdvance (s.setLine n k) v o = closeTx (s.setLine n k) v o codeRejected 6 := by
  subst hv
  simp [txAdvance, hm, hw, hd, applyOrderSetting, hf, hr]

theorem txAdvance_applies (hm : o.mode = .setting) (hw : k.drainWait = true) (hd : k.drained = true)
    (hf : setFramed o.settingWord = k.framed ∨ k.rxOrder = none) :
    txAdvance (s.setLine n k) v o =
      closeTx
        (s.setLine n (Line.applySetting s { k.applyFrame o.markChar o.escapeChar with drainWait := false }
          o.settingWord))
        v o codeDone 0 := by
  subst hv
  have hnot : ¬(setFramed o.settingWord ≠ k.framed ∧ k.rxOrder.isSome = true) := by
    rintro ⟨h1, h2⟩
    rcases hf with hf | hf
    · exact h1 hf
    · rw [hf] at h2
      cases h2
  simp only [txAdvance, hm, State.line_setLine_self, hw, hd, Bool.and_self, if_true, applyOrderSetting,
    if_neg hnot, State.onLine_setLine]
  rfl

end

/-! ### O40 -/

/-- A transmitter that is busy or in hold state starts nothing; a hold timer without a byte in holding stands at 0. -/
theorem Line.tend_of_busy_empty (hb : l.shifter ≠ .empty ∨ l.inHold = true) (hn : l.holding = none) :
    Line.tend s l = { l with holdCount := 0, holdStopped := false } := by
  rw [Line.tend_of_calm (hb.elim .inl fun h => .inr (.inl h)), Line.tendHoldTimer_eq]
  simp [Line.holdTimed, hn]

/-- A busy transmitter with its hold timer at 0 is at rest. -/
theorem Line.tend_of_busy_zero (hb : l.shifter ≠ .empty ∨ l.inHold = true) (hc : l.holdCount = 0)
    (hst : l.holdStopped = false) : Line.tend s l = l := by
  rw [Line.tend_of_calm (hb.elim .inl fun h => .inr (.inl h)), Line.tendHoldTimer_of_zero l hc hst]

/-- Nothing in holding and no underrun: so it stays whatever is loaded (R123). -/
theorem Line.underruns_of_loaded {q : Bool} (hu : l.underruns q = false) (hn : l.holding = none)
    (hphase : k.txPhase = l.txPhase) : k.underruns q = false := by
  have hheld : l.payloadHeld = false := by simp [Line.payloadHeld, hn]
  simp only [Line.underruns, hheld, hphase, Bool.not_false, Bool.and_true, Bool.and_eq_false_iff] at hu ⊢
  tauto

/-- A byte in holding that is no payload byte of a framed line enters a free shifter as one character (R55). -/
theorem Line.tend_character {h : Holding} (hs : l.shifter = .empty) (hh : l.inHold = false)
    (ha : l.abortPending = false) (hu : l.underruns (s.seq == .quiesced) = false) (hn : l.holding = some h)
    (hraw : (l.framed && h.source == .order) = false) (hc : l.holdCount = 0) (hst : l.holdStopped = false) :
    Line.tend s l =
      { l with holding := none, ownByte := false, shifter := l.starting .character h.byte [] (s.formatOf l) } := by
  rw [Line.tend_holding hs hh ha hu hn, hraw]
  exact Line.tendHoldTimer_of_zero _ hc hst

/-- A setting on a line whose transmitter then starts nothing and whose hold timer stands at 0 (R61, R63). -/
theorem Line.applySetting_of_calm {w : Word} (hcalm : (l.changeModes w).calm s) (hc : l.holdCount = 0)
    (hst : l.holdStopped = false) :
    Line.applySetting s l w = (l.changeModes w).checkIdleGap (s.formatOf { l with setting := w }) := by
  have hcount : (l.changeModes w).holdCount = 0 ∧ (l.changeModes w).holdStopped = false := by
    rw [Line.changeModes_eq]
    exact ⟨hc, hst⟩
  have hlimit : (l.changeModes w).checkHoldLimit = l.changeModes w := by
    rw [Line.checkHoldLimit_eq rfl, if_neg]
    rintro ⟨hne, -, hle⟩
    rw [hcount.1] at hle
    omega
  rw [Line.applySetting, Line.tend_eq_self hcalm fun _ => hcount, hlimit]

/-- What a close leaves of a line whose order has discarded its own byte (R85, R93, R94). -/
theorem Line.tend_withdraw_own {h : Holding} (hl : l.atRest s) (hown : l.ownByte = true) (hh : l.holding = some h) :
    Line.tend s ((l.withdraw o).beginClose .tx) =
      { l.beginClose .tx with
        holding := none
        abortPending := l.abortPending || l.orderFrameOpen o
        txOrder := some { o with count := o.count - 1 }
        holdCount := 0
        holdStopped := false } := by
  rw [Line.withdraw_own hown]
  rw [Line.tend_of_busy_empty]
  · rfl
  · have hbusy := Line.busy_of_holding hl hh
    exact hbusy
  · rfl

/-- What a close leaves of a line whose order had no byte of its own, and owes no abort pair that could go at once. -/
theorem Line.tend_withdraw_other (hl : l.atRest s) (hown : l.ownByte = false) (ho : l.txOrder = some o)
    (habort : l.orderFrameOpen o = false ∨ l.shifter ≠ .empty ∨ l.inHold = true) :
    Line.tend s ((l.withdraw o).beginClose .tx) =
      { l.beginClose .tx with abortPending := l.abortPending || l.orderFrameOpen o } := by
  rw [Line.withdraw_other hown, ← ho]
  obtain ⟨hcalm, htimer⟩ := Line.atRest_iff.1 hl
  refine Line.tend_eq_self ?_ (by exact htimer)
  rcases habort with h | h | h
  · rw [h, Bool.or_false]
    exact hcalm
  · exact .inl h
  · exact .inr (.inl h)

/-- Settles O40: a visit with no work for the RX direction makes the TX step, whose items lead to the closes, the load,
the break and the setting of the clauses. -/
theorem transmitOrdersDoTheirStep : Obligations.TransmitOrdersDoTheirStep := by
  unfold Obligations.TransmitOrdersDoTheirStep
  intro n s hs hp hreq l hattn hst hrxc hrx hl o ho v u close closed format started idle applied quiet
  have hk : ({ l with attn := false } : Line) = l := by rw [← hattn]
  have hline (k : Line) : (u.setLine n k).line v.line = k := State.line_setLine_self u n k
  have hsnapshot : snapshot s n = v := by
    change ({ line := n, attn := l.attn, rxCancel := l.rxCancel, txCancel := l.txCancel, resetHeld := false
              point := .loadByte } : Visit) = v
    rw [hattn, hrxc]
  have steps {t : State} (e : txStep (u.setLine n l) v = t) : Leads (exec .visit s) t := by
    refine leads_visit hs hp hst
      (Eq.trans (congrArg (fun k => rxStep (u.setLine n k) (snapshot s n)) hk) (Eq.trans ?_ e))
    rw [hsnapshot]
    cases hro : l.rxOrder with
    | none => exact rxStep_of_nothing (by rw [hline, hro]) rfl rfl
    | some r =>
      obtain ⟨hq, hidle⟩ := hrx.resolve_left (by simp [hro])
      have hcleared : ({ l with idleDue := l.idleDue && !(r.mode != .block) } : Line) = l := by
        rw [hidle, Bool.false_and, ← hidle]
      refine Eq.trans (rxStep_order rfl hro rfl) ?_
      rw [hcleared]
      exact Eq.trans (rxEntries_nil rfl hro hq) (rxIdleTest_quiet rfl hro (.inr hidle))
  have closes {k k' : Line} (count : BitVec 16) (code : BitVec 5) (datum : Byte)
      (h : Line.tend s (k.beginClose .tx) = k') :
      closeTx (u.setLine n k) v { o with count := count } code datum = close k' count datum code := by
    have htend : Line.tend u (k.beginClose .tx) = Line.tend s (k.beginClose .tx) := Line.tend_congr rfl rfl _
    rw [← h, ← htend]
    exact closeTx_tended (s := u) (n := n) (k := k) (v := v) rfl { o with count := count } code datum
  have closesRest (code : BitVec 5) (datum : Byte) :
      closeTx (u.setLine n l) v o code datum = close closed o.count datum code :=
    closes o.count code datum (Line.beginClose_atRest .tx hl)
  have modes {t : State} (hc : l.txCancel = false) (e : txMode (u.setLine n l) v o = t) :
      Leads (exec .visit s) t := steps (Eq.trans (txStep_order rfl ho hc) e)
  have advances {t : State} (hquiet : quiet) (e : txAdvance (u.setLine n l) v o = t) :
      Leads (exec .visit s) t := by
    obtain ⟨hc, hu, hh, hb⟩ := hquiet
    exact modes hc (Eq.trans (txMode_quiet rfl hu hh hb) e)
  have ends (k : Line) : endVisit (u.setLine n k) v = { u.setLine n k with mem := none } :=
    endVisit_begun rfl hp.1 hp.2.1 hp.2.2.1 hreq
  refine ⟨?_, ?_, ?_, ?_, ?_, ?_, ?_, ?_⟩
  · -- A cancel or HOLD_DUE discards the order's own byte (R93, R94).
    intro h code datum hcode hown hh
    have hclose : closeTx (u.setLine n (l.withdraw o)) v (o.uncount l.ownByte) code datum =
        close
          { closed with
            holding := none
            abortPending := l.abortPending || started
            txOrder := some { o with count := o.count - 1 }
            holdCount := 0
            holdStopped := false } (o.count - 1) datum code := by
      rw [hown]
      exact closes (o.count - 1) code datum (Line.tend_withdraw_own hl hown hh)
    rcases hcode with ⟨hc, rfl, rfl⟩ | ⟨hc, hu, hhold, rfl, rfl⟩
    · exact steps (Eq.trans (txStep_cancel rfl ho hc) hclose)
    · have hdatum : l.heldDatum = h.byte := by simp [Line.heldDatum, hown, hh]
      exact modes hc (Eq.trans (txMode_hold rfl hu hhold) (hdatum ▸ hclose))
  · -- A cancel or HOLD_DUE without a byte of its own.
    intro code hcode hown habort
    have hclose : closeTx (u.setLine n (l.withdraw o)) v (o.uncount l.ownByte) code 0 =
        close { closed with abortPending := l.abortPending || started } o.count 0 code := by
      rw [hown]
      exact closes o.count code 0 (Line.tend_withdraw_other hl hown ho habort)
    rcases hcode with ⟨hc, rfl⟩ | ⟨hc, hu, hhold, rfl⟩
    · exact steps (Eq.trans (txStep_cancel rfl ho hc) hclose)
    · have hdatum : l.heldDatum = 0 := by simp [Line.heldDatum, hown]
      exact modes hc (Eq.trans (txMode_hold rfl hu hhold) (hdatum ▸ hclose))
  · -- UNDERRUN_DUE (R123).
    intro hc hu
    exact modes hc (Eq.trans (txMode_underrun rfl hu) (closesRest codeUnderrun 0))
  · -- BREAK_DONE (R91).
    intro hc hu hh hb
    refine ⟨fun hm hstarted => ?_, fun hm hn => ?_, fun hm hstarted hw => ?_⟩
    · exact modes hc (Eq.trans (txMode_broken rfl hu hh hb hm hstarted) (closesRest codeDone o.datum))
    · refine modes hc (Eq.trans (txMode_clears rfl hu hh hb (.inl (by rw [hm]; nofun))) ?_)
      exact txAdvance_load rfl (.inl hm) (by exact hn)
    · refine modes hc (Eq.trans (txMode_clears rfl hu hh hb (.inr hstarted)) ?_)
      exact Eq.trans (txAdvance_waits rfl (.inl hm) (by exact hw)) (ends _)
  · -- TX SINGLE (R86).
    intro hquiet hm hn
    obtain ⟨hcount, hstopped⟩ := Line.holdTimer_of_holding_none hl hn
    refine ⟨fun hb => ?_, fun hempty hhold hframed => ?_⟩
    · intro h
      refine advances hquiet (Eq.trans (txAdvance_single rfl hm hn) ?_)
      have hload : Line.tend u { l with holding := some h } = { l with holding := some h } :=
        Line.tend_of_busy_zero hb hcount hstopped
      rw [hload]
      exact closes o.count codeDone o.datum (Line.tend_of_busy_zero (by exact hb) hcount hstopped)
    · refine advances hquiet (Eq.trans (txAdvance_single rfl hm hn) ?_)
      obtain ⟨habort, hunder, -⟩ := Line.idle_of_free hl hempty hhold
      have hload := Line.tend_character (s := u) (l := { l with
        holding := some { byte := o.datum, first := false, last := false, source := .order } }) hempty hhold habort
        (Line.underruns_of_loaded hunder hn rfl) rfl (by exact Bool.and_eq_false_iff.2 (.inl hframed)) hcount hstopped
      rw [hload]
      refine Eq.trans (closes o.count codeDone o.datum (Line.tend_of_busy_zero ?_ hcount hstopped)) ?_
      · exact .inl nofun
      · rw [← hn]
        rfl
  · -- TX BLOCK and TX FRAME (R87, R126).
    intro hquiet hm hn
    have hsame : u.setLine n l = u := State.setLine_self u n
    refine advances hquiet (Eq.trans (txAdvance_load rfl hm hn) ?_)
    rw [hsame]
  · -- TX BREAK (R91).
    intro hquiet hm hw hd
    exact advances hquiet (Eq.trans (txAdvance_break rfl hm hw hd) (ends _))
  · -- TX SETTING (R92).
    intro hquiet hm hw hd
    obtain ⟨hn, hempty, habort⟩ : l.holding = none ∧ l.shifter = .empty ∧ l.abortPending = false := by
      simpa [Line.drained, and_assoc] using hd
    obtain ⟨hcount, hstopped⟩ := Line.holdTimer_of_holding_none hl hn
    let taken : Line := { l.applyFrame o.markChar o.escapeChar with drainWait := false }
    have rests (k : Line) (h : k.atRest s) : (idle k).atRest s := by
      simp only [idle]
      split
      · exact Line.atRest_of_agrees h rfl rfl rfl rfl rfl rfl rfl rfl rfl (.inr (.inl rfl))
      · exact h
    have takes (k : Line) (hf : setFramed o.settingWord = l.framed ∨ l.rxOrder = none)
        (hcalm : (taken.changeModes o.settingWord).calm u)
        (hk : ((taken.changeModes o.settingWord).checkIdleGap (format o.settingWord)).beginClose .tx = k)
        (hrest : k.atRest s) : Leads (exec .visit s) (close k o.count 0 0) := by
      refine advances hquiet (Eq.trans (txAdvance_applies rfl hm hw hd hf) ?_)
      rw [Line.applySetting_of_calm hcalm hcount hstopped]
      exact closes o.count codeDone 0 (by rw [← hrest, ← hk]; rfl)
    refine ⟨fun hf hphase => ?_, fun hf hr => ?_, fun hf hr => ?_⟩
    · have hmodes := Line.changeModes_framed (l := taken) (w := o.settingWord) hf
      refine takes _ (.inl hf) ?_ ?_ ?_
      · rw [hmodes]
        exact .inr (.inr ⟨habort, Line.underruns_of_phase hphase, hn⟩)
      · rw [hmodes, Line.checkIdleGap_eq rfl]
        exact apply_ite (fun k : Line => k.beginClose .tx) _ _ _
      · refine rests _ (Line.tend_eq_self (.inr (.inr ⟨habort, ?_, hn⟩)) fun _ => ⟨hcount, hstopped⟩)
        exact Line.underruns_of_phase hphase
    · have hmodes := Line.changeModes_refram (l := taken) (w := o.settingWord) hf
      refine takes _ (.inr hr) ?_ ?_ ?_
      · rw [hmodes]
        exact .inr (.inr ⟨rfl, rfl, hn⟩)
      · rw [hmodes, Line.checkIdleGap_eq rfl]
        rw [if_neg (by rintro ⟨h, -⟩; cases h)]
        simp only [applied, closed, habort]
        rfl
      · exact Line.tend_eq_self (.inr (.inr ⟨habort, rfl, hn⟩)) fun _ => ⟨hcount, hstopped⟩
    · exact advances hquiet (Eq.trans (txAdvance_refuses rfl hm hw hd hf hr) (closesRest codeRejected 6))

end Sys2Proof.Machine
end


section
/-! Fetched words that pass their checks (R11, R13, R14, R37, R38): the fetch reads on, or the order is accepted and
does its work in the same visit. -/

namespace Sys2Proof.Machine

variable {s u : State} {l k : Line} {n : LineNo} {v : Visit} {w : Word}

/-! ### Words that pass (R9, R12) -/

theorem toNat_of_modeBits {m : BitVec 3} (h : w.extractLsb' 28 3 = m) : (modeBits w).toNat = m.toNat :=
  congrArg BitVec.toNat h

/-- An RX order word with a mode of the line's framing passes (R12). -/
theorem rxRejection_eq_none {framed : Bool} (hz : w.extractLsb' 26 2 = 0#2)
    (hm : (framed = false ∧ ((modeBits w).toNat = 1 ∨ (modeBits w).toNat = 2 ∨ (modeBits w).toNat = 3)) ∨
      (framed = true ∧ (modeBits w).toNat = 4)) : rxRejection w framed = none := by
  rw [rxRejection_eq, if_neg (by omega), if_neg (not_not.2 hz), if_neg]
  rcases hm with ⟨rfl, hm⟩ | ⟨rfl, hm⟩
  · simp
    omega
  · simp [hm]

/-- A TX order word with a mode of the line's framing passes; TX SETTING and TX BREAK serve both (R12). -/
theorem txRejection_eq_none {framed : Bool} (hz : w.extractLsb' 26 2 = 0#2)
    (hm : (framed = false ∧ ((modeBits w).toNat = 1 ∨ (modeBits w).toNat = 2)) ∨
      (framed = true ∧ (modeBits w).toNat = 4) ∨ (modeBits w).toNat = 3 ∨
      ((modeBits w).toNat = 5 ∧ datumBits w ≠ 0#8)) : txRejection w framed = none := by
  have hmode : ¬((modeBits w).toNat = 0 ∨ 6 ≤ (modeBits w).toNat) := by omega
  rw [txRejection_eq, if_neg hmode, if_neg (not_not.2 hz), if_neg, if_neg]
  · rintro ⟨h5, hd⟩
    rcases hm with ⟨-, h | h⟩ | ⟨-, h⟩ | h | ⟨-, h⟩
    · omega
    · omega
    · omega
    · omega
    · exact h hd
  · rintro ⟨h3, h5, h | h⟩
    · rcases hm with ⟨hf, -⟩ | ⟨-, h4⟩ | h' | ⟨h', -⟩
      · exact absurd (hf.symm.trans h.1) nofun
      · exact h.2 h4
      · exact h3 h'
      · exact h5 h'
    · rcases hm with ⟨-, h' | h'⟩ | ⟨hf, -⟩ | h' | ⟨h', -⟩
      · omega
      · omega
      · exact absurd (hf.symm.trans h.1) nofun
      · exact h3 h'
      · exact h5 h'

/-! ### The next word (R11, R13) -/

/-- A buffer mode reads its ADDRESS (Table 7). -/
theorem fetchedRx_reads (hr : rxRejection w (s.line v.line).framed = none)
    (hm : (modeBits w).toNat = 2 ∨ (modeBits w).toNat = 3 ∨ (modeBits w).toNat = 4) :
    fetchedRx s v w = issueParameter s v .rx (.fetchAddress .rx w) (addressOffset .rx) := by
  rcases hm with hm | hm | hm <;> simp [fetchedRx, hr, rxModeOf, hm]

theorem fetchedTx_reads (hr : txRejection w (s.line v.line).framed = none)
    (hm : (modeBits w).toNat = 2 ∨ (modeBits w).toNat = 4) :
    fetchedTx s v w = issueParameter s v .tx (.fetchAddress .tx w) (addressOffset .tx) := by
  rcases hm with hm | hm <;> simp [fetchedTx, hr, txModeOf, hm]

theorem fetchedTx_setting (hr : txRejection w (s.line v.line).framed = none) (hm : (modeBits w).toNat = 3) :
    fetchedTx s v w = issueParameter s v .tx (.fetchSetting w) settingOffset := by
  simp [fetchedTx, hr, txModeOf, hm]

/-! ### Acceptance (R14, R90) -/

/-- A receive order is accepted and looks at the queue. -/
theorem acceptRx_empty (hq : (s.line v.line).queue = []) (o : RxOrder)
    (hidle : o.mode ≠ .block ∨ (s.line v.line).idleDue = false) :
    acceptRx s v o =
      txStep
        (s.setLine v.line
          { s.line v.line with
            rxOrder := some o
            idleDue := (s.line v.line).idleDue && !(o.mode != .block) })
        v := by
  have hquiet : o.mode ≠ .block ∨ ((s.line v.line).idleDue && !(o.mode != .block)) = false := by
    rcases hidle with h | h
    · exact .inl h
    · exact .inr (by rw [h, Bool.false_and])
  refine Eq.trans (rxMode_setLine rfl) (Eq.trans (rxEntries_nil (v := v) (n := v.line) rfl rfl (by exact hq)) ?_)
  exact rxIdleTest_quiet (v := v) (n := v.line) rfl rfl hquiet

/-- A transmit order is accepted on a line at rest with holding empty. -/
theorem acceptTx_rest (hl : (s.line v.line).atRest s) (o : TxOrder) :
    acceptTx s v o =
      txMode
        (s.setLine v.line
          { s.line v.line with txOrder := some o, drainWait := o.mode.drains, ownByte := false })
        v o := by
  have hrest : Line.tend s { s.line v.line with txOrder := some o, drainWait := o.mode.drains, ownByte := false } = _ :=
    Line.atRest_of_agrees hl rfl rfl rfl rfl rfl rfl rfl rfl rfl (.inl rfl)
  rw [acceptTx, State.onLine_eq, hrest]

/-- What tending leaves of a line's setting and orders. -/
theorem Line.tend_kept (s : State) (l : Line) :
    (Line.tend s l).setting = l.setting ∧ (Line.tend s l).markChar = l.markChar ∧
      (Line.tend s l).escapeChar = l.escapeChar ∧ (Line.tend s l).txOrder = l.txOrder ∧
      (Line.tend s l).rxOrder = l.rxOrder ∧ (Line.tend s l).drainWait = l.drainWait := by
  rw [Line.tend_eq]
  exact ⟨rfl, rfl, rfl, rfl, rfl, rfl⟩

theorem Line.applySetting_kept (s : State) (l : Line) (w : Word) :
    (Line.applySetting s l w).setting = w ∧ (Line.applySetting s l w).markChar = l.markChar ∧
      (Line.applySetting s l w).escapeChar = l.escapeChar ∧ (Line.applySetting s l w).txOrder = l.txOrder ∧
      (Line.applySetting s l w).rxOrder = l.rxOrder ∧ (Line.applySetting s l w).drainWait = l.drainWait := by
  have h := Line.tend_kept s (l.changeModes w)
  rw [Line.applySetting_eq]
  rw [Line.changeModes_eq] at h ⊢
  exact h

/-- Where none of the three flags stands, a close leaves them so. -/
theorem Line.beginClose_quiet (hu : k.underrunDue = false) (hh : k.holdDue = false) (hb : k.breakDone = false) :
    k.beginClose .tx = { k with txCancel := false, drainWait := false, ownByte := false } := by
  cases k
  cases hu
  cases hh
  cases hb
  rfl

/-- Settles O42: each clause names the point the visit waits at; the word's arrival there is the next read, or the
order's acceptance and its work on a line at rest. -/
theorem fetchesReadOnAndAccept : Obligations.FetchesReadOnAndAccept := by
  unfold Obligations.FetchesReadOnAndAccept
  intro s v t w hp hm ha hr hattn hrxc htxc l hl hnone block
  obtain ⟨hv, hheld, hseq, hpower, hreq⟩ := hp
  have arrives {u : State} : wordArrived s.freeEngine v w = u → Leads (exec (.wordRead t.tag (.ok w)) s) u :=
    leads_wordRead hv hm ha hr
  have ends (k : Line) : endVisit (s.freeEngine.setLine v.line k) v =
      { s.setLine v.line k with visit := none, mem := none, seq := s.seq.afterVisit } :=
    endVisit_plain hheld hseq hpower hreq
  have fetches (x : State) (hx : (x.line v.line).txOrder = none) :
      txStep x v = x.issue v (.fetchOrder .tx false) .wordRead (x.blockWord v.line 0x10) .txOrderFetch := by
    rw [txStep_fetches hx (.inr hattn), htxc]
    rfl
  have tx {u : State} (hpoint : v.point = .fetchOrder .tx false) (hown : w.getLsbD 31 = true)
      (e : fetchedTx s.freeEngine v w = u) : Leads (exec (.wordRead t.tag (.ok w)) s) u := by
    apply arrives
    simp only [wordArrived, hpoint, fetchedOrder, ownBit, hown, if_true]
    exact e
  have rx {u : State} (hpoint : v.point = .fetchOrder .rx false) (hown : w.getLsbD 31 = true)
      (e : fetchedRx s.freeEngine v w = u) : Leads (exec (.wordRead t.tag (.ok w)) s) u := by
    apply arrives
    simp only [wordArrived, hpoint, fetchedOrder, ownBit, hown, if_true]
    exact e
  have waits {b : Bool} (o : RxOrder) (hq : l.queue = []) (hidle : o.mode ≠ .block ∨ l.idleDue = false)
      (hb : (l.idleDue && !(o.mode != .block)) = b) :
      acceptRx s.freeEngine v o =
        (s.setLine v.line { l with rxOrder := some o, idleDue := b }).issue v (.fetchOrder .tx false) .wordRead
          (block 0x10) .txOrderFetch := by
    subst hb
    refine (acceptRx_empty (s := s.freeEngine) hq o hidle).trans (Eq.trans (fetches _ ?_) rfl)
    rw [State.line_setLine_self]
    exact hnone
  refine ⟨?_, ?_, ?_, ?_, ?_, ?_, ?_, ?_, ?_, ?_⟩
  · -- An RX order word that is the host's (R11).
    intro hpoint hown
    apply arrives
    simp only [wordArrived, hpoint, fetchedOrder, ownBit, hown, Bool.false_eq_true, if_false, afterStep]
    exact fetches s.freeEngine hnone
  · -- A TX order word that is the host's (R11).
    intro hpoint hown
    apply arrives
    simp only [wordArrived, hpoint, fetchedOrder, ownBit, hown, Bool.false_eq_true, if_false, afterStep]
    exact endVisit_plain hheld hseq hpower hreq
  · -- An RX buffer mode (Table 7).
    intro hpoint hown hz hmode
    refine rx hpoint hown (fetchedRx_reads (rxRejection_eq_none hz ?_) ?_)
    · rcases hmode with ⟨hf, h | h⟩ | ⟨hf, h⟩
      · exact .inl ⟨hf, .inr (.inl (toNat_of_modeBits h))⟩
      · exact .inl ⟨hf, .inr (.inr (toNat_of_modeBits h))⟩
      · exact .inr ⟨hf, toNat_of_modeBits h⟩
    · rcases hmode with ⟨-, h | h⟩ | ⟨-, h⟩
      · exact .inl (toNat_of_modeBits h)
      · exact .inr (.inl (toNat_of_modeBits h))
      · exact .inr (.inr (toNat_of_modeBits h))
  · -- A TX buffer mode (Table 7).
    intro hpoint hown hz hmode
    refine tx hpoint hown (fetchedTx_reads (txRejection_eq_none hz ?_) ?_)
    · rcases hmode with ⟨hf, h⟩ | ⟨hf, h⟩
      · exact .inl ⟨hf, .inr (toNat_of_modeBits h)⟩
      · exact .inr (.inl ⟨hf, toNat_of_modeBits h⟩)
    · rcases hmode with ⟨-, h⟩ | ⟨-, h⟩
      · exact .inl (toNat_of_modeBits h)
      · exact .inr (toNat_of_modeBits h)
  · -- TX SETTING (Table 7).
    intro hpoint hown hz hmode
    have h3 : (modeBits w).toNat = 3 := toNat_of_modeBits hmode
    exact tx hpoint hown (fetchedTx_setting (txRejection_eq_none hz (.inr (.inr (.inl h3)))) h3)
  · -- A valid setting word (R8).
    intro order hpoint hvalid
    apply arrives
    simp only [wordArrived, hpoint, fetchedSetting, hvalid, if_true]
    rfl
  · -- ADDRESS (R7).
    intro d order hpoint
    apply arrives
    simp only [wordArrived, hpoint]
    cases d <;> rfl
  · -- RX SINGLE (R67).
    intro hpoint hown hz hf hmode hq o
    have h1 : (modeBits w).toNat = 1 := toNat_of_modeBits hmode
    have hpass : rxRejection w (s.freeEngine.line v.line).framed = none :=
      rxRejection_eq_none hz (.inl ⟨hf, .inl h1⟩)
    refine rx hpoint hown ?_
    have haccept : fetchedRx s.freeEngine v w = acceptRx s.freeEngine v o := by
      simp only [fetchedRx, hpass, rxModeOf, h1]
      rfl
    exact haccept.trans (waits o hq (.inl nofun) (Bool.and_false _))
  · -- An RX length word (R7, R13).
    intro order address hpoint hlength hmode hq hidle o
    apply arrives
    have hcopy : copyRx ((rxModeOf (modeBits order)).getD .block) order address w = o := by
      have hsame : (rxModeOf (modeBits order)).getD .block = o.mode := by
        rcases hmode with h | h | h <;> simp only [o, modeBits, h] <;> decide
      rw [hsame]
      rfl
    simp only [wordArrived, hpoint, fetchedLength, hcopy]
    rw [if_neg (by exact hlength)]
    exact waits o hq (.inr hidle) (by rw [hidle, Bool.false_and])
  intro quiet format copied ended write
  have accepts (o : TxOrder) (hq : quiet) :
      acceptTx s.freeEngine v o =
        txAdvance
          (s.freeEngine.setLine v.line { l with txOrder := some o, drainWait := o.mode.drains, ownByte := false })
          v o := by
    obtain ⟨hu, hh, hb⟩ := hq
    exact (acceptTx_rest (s := s.freeEngine) (by exact hl) o).trans (txMode_quiet rfl hu hh hb)
  have closes {k k' : Line} {code : BitVec 5} {datum : Byte} (o : TxOrder) (hm : ¬(o.mode = .block ∨ o.mode = .frame))
      (hquiet : k.underrunDue = false ∧ k.holdDue = false ∧ k.breakDone = false)
      (hrest : ({ k with txCancel := false, drainWait := false, ownByte := false } : Line).atRest s)
      (hk : ({ k with txCancel := false, drainWait := false, ownByte := false } : Line) = k') :
      closeTx (s.freeEngine.setLine v.line k) v o code datum =
        (s.setLine v.line k').issue v (.writeOrder .tx (txClosed o datum code))
          (.wordWrite (txClosed o datum code)) (block 0x10) .txWriteback := by
    obtain ⟨hu, hh, hb⟩ := hquiet
    rw [closeTx_tended rfl, if_neg hm, Line.beginClose_quiet hu hh hb, ← hk]
    exact congrArg (fun k => (s.setLine v.line k).issue v (.writeOrder .tx (txClosed o datum code))
          (.wordWrite (txClosed o datum code)) (block 0x10) .txWriteback) hrest
  refine ⟨?_, ?_, ?_, ?_⟩
  · -- TX SINGLE (R86).
    intro hpoint hown hz hf hmode hn hq o loaded
    have h1 : (modeBits w).toNat = 1 := toNat_of_modeBits hmode
    have hpass : txRejection w (s.freeEngine.line v.line).framed = none :=
      txRejection_eq_none hz (.inl ⟨hf, .inl h1⟩)
    refine tx hpoint hown ?_
    have haccept : fetchedTx s.freeEngine v w = acceptTx s.freeEngine v o := by
      simp only [fetchedTx, hpass, txModeOf, h1]
      rfl
    refine haccept.trans ((accepts o hq).trans ?_)
    obtain ⟨hcount, hstopped⟩ := Line.holdTimer_of_holding_none hl hn
    refine Eq.trans (txAdvance_single rfl rfl (by exact hn)) ?_
    by_cases hbusy : l.shifter ≠ .empty ∨ l.inHold = true
    · have hload := Line.tend_of_busy_zero (s := s.freeEngine) (l := { l with
        txOrder := some o, drainWait := false, ownByte := false
        holding := some { byte := o.datum, first := false, last := false, source := .order } }) hbusy hcount hstopped
      refine Eq.trans (congrArg (fun k => closeTx (s.freeEngine.setLine v.line k) v o codeDone o.datum) hload) ?_
      refine closes o (by nofun) (by exact hq) (Line.tend_of_busy_zero (by exact hbusy) hcount hstopped) ?_
      simp only [loaded, if_pos hbusy]
    · obtain ⟨hempty, hhold⟩ : l.shifter = .empty ∧ l.inHold = false := by simpa using hbusy
      obtain ⟨habort, hunder, -⟩ := Line.idle_of_free hl hempty hhold
      have hload := Line.tend_character (s := s.freeEngine) (l := { l with
        txOrder := some o, drainWait := false, ownByte := false
        holding := some { byte := o.datum, first := false, last := false, source := .order } }) hempty hhold habort
        (Line.underruns_of_loaded hunder hn rfl) rfl (by exact Bool.and_eq_false_iff.2 (.inl hf)) hcount hstopped
      refine Eq.trans (congrArg (fun k => closeTx (s.freeEngine.setLine v.line k) v o codeDone o.datum) hload) ?_
      refine closes o (by nofun) (by exact hq) (Line.tend_of_busy_zero (.inl nofun) hcount hstopped) ?_
      simp only [loaded, if_neg hbusy]
      rw [← hn]
      rfl
  · -- TX BREAK (R90, R91).
    intro hpoint hown hz hmode hdatum hq o
    have h5 : (modeBits w).toNat = 5 := toNat_of_modeBits hmode
    have hpass : txRejection w (s.freeEngine.line v.line).framed = none :=
      txRejection_eq_none hz (.inr (.inr (.inr ⟨h5, hdatum⟩)))
    have haccept : fetchedTx s.freeEngine v w = acceptTx s.freeEngine v o := by
      simp only [fetchedTx, hpass, txModeOf, h5]
      rfl
    refine ⟨fun hd => tx hpoint hown (haccept.trans ((accepts o hq).trans ?_)),
      fun hd => tx hpoint hown (haccept.trans ((accepts o hq).trans ?_))⟩
    · exact Eq.trans (txAdvance_break rfl rfl rfl hd) (ends _)
    · exact Eq.trans (txAdvance_waits rfl (.inl rfl) (.inr hd)) (ends _)
  · -- A frame word (R9, R92).
    intro order setting hpoint hzero hdiffer hq o
    have hpass : frameRejection setting w = none := by
      rw [frameRejection_eq, if_neg (not_not.2 hzero), if_neg]
      rintro ⟨hf, heq⟩
      exact hdiffer hf heq
    have haccept {u : State} (e : txAdvance (s.freeEngine.setLine v.line
        { l with txOrder := some o, drainWait := true, ownByte := false }) v o = u) :
        Leads (exec (.wordRead t.tag (.ok w)) s) u := by
      apply arrives
      simp only [wordArrived, hpoint, fetchedFrame, hpass]
      exact (accepts o hq).trans e
    refine ⟨fun hd => haccept ?_, fun hd hf hro => haccept ?_, fun hd hf => ?_⟩
    · exact Eq.trans (txAdvance_waits rfl (.inr rfl) (.inr hd)) (ends _)
    · refine Eq.trans (txAdvance_refuses rfl rfl rfl hd hf hro) ?_
      refine closes o (by nofun) (by exact hq) ?_ rfl
      exact Line.atRest_of_agrees hl rfl rfl rfl rfl rfl rfl rfl rfl rfl (.inl rfl)
    · let taken : Line := { l.applyFrame o.markChar o.escapeChar with
        txOrder := some o, drainWait := false, ownByte := false }
      let applied : Line := Line.applySetting s.freeEngine taken setting
      have hclose := (txAdvance_applies (s := s.freeEngine) (n := v.line) (o := o)
        (k := { l with txOrder := some o, drainWait := true, ownByte := false }) rfl rfl rfl hd hf).trans
        (closeTx_tended (s := s.freeEngine) (n := v.line) (v := v) (k := applied) rfl o codeDone 0)
      obtain ⟨u, hu, heq, -⟩ := haccept hclose
      refine ⟨u, hu, ?_⟩
      have hline : u.line v.line = Line.tend s.freeEngine (applied.beginClose .tx) := by
        rw [heq]
        exact State.line_setLine_self _ _ _
      obtain ⟨h1, h2, h3, h4, h5, h6⟩ := Line.tend_kept s.freeEngine (applied.beginClose .tx)
      obtain ⟨k1, k2, k3, k4, k5, -⟩ := Line.applySetting_kept s.freeEngine taken setting
      rw [hline, h1, h2, h3, h4, h5, h6]
      refine ⟨?_, k1, k2, k3, k4, k5, rfl⟩
      rw [heq]
      rfl
  · -- A TX length word (R7, R13).
    intro order address hpoint hlength hmode hn hq o
    have hcopy : copyTx ((txModeOf (modeBits order)).getD .block) order address w 0 0 = o := by
      have hsame : (txModeOf (modeBits order)).getD .block = o.mode := by
        rcases hmode with h | h <;> simp only [o, modeBits, h] <;> decide
      rw [hsame]
      rfl
    apply arrives
    simp only [wordArrived, hpoint, fetchedLength, hcopy]
    rw [if_neg (by exact hlength)]
    have hm : o.mode = .block ∨ o.mode = .frame := by
      rcases hmode with h | h <;> simp [o, h]
    have hdrains : o.mode.drains = false := by rcases hm with h | h <;> rw [h] <;> rfl
    have haddress : o.address + o.count.setWidth 32 = address := BitVec.add_zero address
    refine (accepts o hq).trans ?_
    rw [hdrains]
    refine (txAdvance_load rfl hm (by exact hn)).trans ?_
    rw [haddress]
    rfl

end Sys2Proof.Machine
end


section
/-! Buffer bytes of a visit's orders: a loaded byte enters holding, and the shifter where that is free (R55, R87, R88,
R121, R126). -/

namespace Sys2Proof.Machine

variable {s u : State} {l k : Line} {n : LineNo} {v : Visit} {o : TxOrder} {b : Byte}

/-! ### A byte loaded on a line at rest (R55, R121) -/

theorem Line.tend_load_busy (hl : l.atRest s) (hn : l.holding = none) (hb : l.shifter ≠ .empty ∨ l.inHold = true) :
    Line.tend s (l.load o b) = l.load o b := by
  obtain ⟨hcount, hstopped⟩ := Line.holdTimer_of_holding_none hl hn
  exact Line.tend_of_busy_zero (by exact hb) hcount hstopped

theorem Line.tend_load_character (hl : l.atRest s) (hn : l.holding = none) (hs : l.shifter = .empty)
    (hh : l.inHold = false) (hf : l.framed = false) :
    Line.tend s (l.load o b) =
      { l with
        txOrder := some { o with count := o.count + 1 }
        ownByte := false
        shifter := l.starting .character b [] (s.formatOf l) } := by
  obtain ⟨hcount, hstopped⟩ := Line.holdTimer_of_holding_none hl hn
  obtain ⟨habort, hunder, -⟩ := Line.idle_of_free hl hs hh
  have hload := Line.tend_character (s := s) (l := l.load o b) hs hh habort
    (Line.underruns_of_loaded hunder hn rfl) rfl (by exact Bool.and_eq_false_iff.2 (.inl hf)) hcount hstopped
  rw [hload, ← hn]
  rfl

/-- The first byte of a frame opens it (R121). -/
theorem Line.tend_load_opening (hl : l.atRest s) (hn : l.holding = none) (hs : l.shifter = .empty)
    (hh : l.inHold = false) (hf : l.framed = true) (hm : o.mode = .frame) (hz : o.count = 0) :
    Line.tend s (l.load o b) =
      { l with
        txOrder := some { o with count := o.count + 1 }
        ownByte := false
        txPhase := .opening
        txCrc := 0xFFFF
        shifter := l.starting (.frame (loadedHolding o b).last) l.markChar
          (.payload b :: if (loadedHolding o b).last then [.crcHigh, .crcLow, .closing] else []) (s.formatOf l) } := by
  obtain ⟨hcount, hstopped⟩ := Line.holdTimer_of_holding_none hl hn
  obtain ⟨habort, hunder, -⟩ := Line.idle_of_free hl hs hh
  have hpayload : ((l.load o b).framed && (loadedHolding o b).source == .order) = true := by
    change (l.framed && Source.order == Source.order) = true
    rw [hf]
    rfl
  have hpieces : (loadedHolding o b).pieces =
      .opening :: .payload b :: if (loadedHolding o b).last then [.crcHigh, .crcLow, .closing] else [] := by
    have hfirst : (loadedHolding o b).first = true := by simp [loadedHolding, hm, hz]
    rw [Holding.pieces, hfirst]
    rfl
  have hload := Line.tend_holding (s := s) (l := l.load o b) hs hh habort (Line.underruns_of_loaded hunder hn rfl) rfl
  rw [hload, hpayload, if_pos rfl, Line.sendPayload, hpieces]
  refine (Line.tendHoldTimer_of_zero _ (by exact hcount) (by exact hstopped)).trans ?_
  rw [← hn]
  rfl

/-! ### The answer -/

theorem leads_byteRead {t : Txn} (hv : s.visit = some v) (hm : s.mem = some t) (ha : s.awaits t = true)
    (hr : t.request = .byteRead) (e : byteLoaded s.freeEngine v b = u) :
    Leads (exec (.byteRead t.tag (.ok b)) s) u := by
  rw [exec_byteRead]
  refine leads_answered hv hm ha ?_
  simpa only [answerByteRead, State.awaited_self hv hm, hr] using e

theorem loadMarks_iff :
    loadMarks s l o b = true ↔ o.mode = .block ∧ o.flags.getLsbD 0 = true ∧
      (classLookup s.classTable (setClassB l.setting)
        (lineValue { setting := l.setting, divisor := 1 } b)).getLsbD 0 = true := by
  simp only [loadMarks, Bool.and_eq_true, beq_iff_eq, and_assoc]
  rfl

/-- Settles O45: the byte is loaded on a line at rest and enters a free shifter; the order then closes by its count or
its mark, or the visit ends. -/
theorem loadedBytesCountAndCloseOrders : Obligations.LoadedBytesCountAndCloseOrders := by
  unfold Obligations.LoadedBytesCountAndCloseOrders
  intro s v t o b hp hm ha hr hpoint l ho hl
  obtain ⟨hv, hheld, hseq, hpower, hreq⟩ := hp
  have ends (k : Line) : endVisit (s.freeEngine.setLine v.line k) v =
      { s.setLine v.line k with visit := none, mem := none, seq := s.seq.afterVisit } :=
    endVisit_plain hheld hseq hpower hreq
  have arrives {u : State} : byteLoaded s.freeEngine v b = u → Leads (exec (.byteRead t.tag (.ok b)) s) u :=
    leads_byteRead hv hm ha hr
  have hline : (s.freeEngine.line v.line).txOrder = some o := ho
  refine ⟨fun hu => ?_, ?_⟩
  · apply arrives
    simp only [byteLoaded, hline]
    rw [if_pos (by exact hu)]
    exact endVisit_plain hheld hseq hpower hreq
  · intro hu hmode hn free format trailer hcase h counted loaded close marks
    obtain ⟨hcount, hstopped⟩ := Line.holdTimer_of_holding_none hl hn
    have hholding : loadedHolding o b = h := by
      simp [loadedHolding, h, Bool.decide_and, beq_eq_decide]
    have hload : Line.tend s (l.load o b) = { loaded with ownByte := loaded.holding.isSome } := by
      by_cases hbusy : l.shifter ≠ .empty ∨ l.inHold = true
      · rw [Line.tend_load_busy hl hn hbusy, Line.load, hholding]
        simp only [loaded, if_pos hbusy]
        rfl
      · obtain ⟨hempty, hhold⟩ : l.shifter = .empty ∧ l.inHold = false := by simpa using hbusy
        have hnone : counted.holding.isSome = false := by simp [counted, hn]
        rcases hcase.resolve_left (not_not.2 ⟨hempty, hhold⟩) with ⟨hm, hf⟩ | ⟨hm, hf, hz⟩
        · rw [Line.tend_load_character hl hn hempty hhold hf]
          simp only [loaded, if_neg hbusy, if_pos hm, hnone]
          rfl
        · have hne : o.mode ≠ .block := by rw [hm]; nofun
          have htrailer : (if h.last then [.crcHigh, .crcLow, .closing] else []) = trailer := by
            simp [h, hm, trailer]
          rw [Line.tend_load_opening hl hn hempty hhold hf hm hz, hholding, htrailer]
          simp only [loaded, if_neg hbusy, if_neg hne, hnone]
          rfl
    have hrest : Line.atRest s
        { loaded with
          txCancel := false
          holdDue := false
          underrunDue := false
          breakDone := false
          drainWait := false
          ownByte := false } := by
      refine Line.tend_of_busy_zero ?_ ?_ ?_ <;> simp only [loaded]
      · split_ifs with hbusy
        · exact hbusy
        · exact .inl nofun
        · exact .inl nofun
      · split_ifs <;> exact hcount
      · split_ifs <;> exact hstopped
    have closes (code : BitVec 5) :
        closeTx (s.freeEngine.setLine v.line { loaded with ownByte := loaded.holding.isSome }) v
          { o with count := o.count + 1 } code b = close code := by
      rw [closeTx_tended rfl, if_pos hmode]
      exact congrArg (fun k => (s.setLine v.line k).issue v (.writeLength .tx (txClosed o b code))
        (.wordWrite ((o.count + 1) ++ o.length)) (s.tableBase + BitVec.ofNat 32 (64 * v.line.val + 0x18)) .txWriteback)
        hrest
    have loads {u : State} (e : (if o.count + 1 = o.length then
          closeTx (s.freeEngine.setLine v.line { loaded with ownByte := loaded.holding.isSome }) v
            { o with count := o.count + 1 } codeDone b
        else if loadMarks s l o b = true then
          closeTx (s.freeEngine.setLine v.line { loaded with ownByte := loaded.holding.isSome }) v
            { o with count := o.count + 1 } codeMarked b
        else endVisit (s.freeEngine.setLine v.line { loaded with ownByte := loaded.holding.isSome }) v) = u) :
        Leads (exec (.byteRead t.tag (.ok b)) s) u := by
      apply arrives
      rw [← e, ← hload]
      simp only [byteLoaded, hline]
      rw [if_neg (by simpa using hu)]
      rfl
    refine ⟨fun hdone => ?_, fun hdone hmarks => ?_, fun hdone hmarks => ?_⟩
    · exact loads ((if_pos hdone).trans (closes codeDone))
    · exact loads ((if_neg hdone).trans ((if_pos (loadMarks_iff.2 hmarks)).trans (closes codeMarked)))
    · exact loads ((if_neg hdone).trans ((if_neg fun h => hmarks (loadMarks_iff.1 h)).trans (ends _)))

end Sys2Proof.Machine
end


section
/-! Stored characters (R71, R73, R75, R76): the count, the entry that leaves, the echo, and the close that may follow
(Table 24). -/

namespace Sys2Proof.Machine

variable {s u : State} {l k : Line} {n : LineNo} {v : Visit} {o : RxOrder} {value : Byte}

/-- A DATA entry leaves the queue (R52). -/
theorem Line.pop_data {parity framing overrun : Bool} {classes : BitVec 4} {rest : List Entry}
    (hq : l.queue = .data value parity framing overrun classes :: rest) :
    l.pop = { l with queue := rest, pacing := pacingAfter l.pacing rest.length } := by
  have hkept : (l.remnant && !(Entry.data value parity framing overrun classes).isFrameEnd) = l.remnant :=
    Bool.and_true _
  rw [Line.pop_cons hq, hkept]

/-! ### The echo (R73) -/

/-- The line as it is once a stored character has been echoed, where it is to be and can be. -/
def Line.echoed (s : State) (l : Line) (o : RxOrder) (classes : BitVec 4) (value : Byte) : Line :=
  if echoWanted o classes && l.mayEcho then Line.tend s (l.echo value) else l

theorem storedBlock_setLine (hv : v.line = n) (quota : Nat) (overrun : Bool) (classes : BitVec 4) :
    storedBlock (s.setLine n k) v o quota value overrun classes =
      match storedClosure o overrun (echoWanted o classes && !k.mayEcho) classes with
      | some code => closeRx (s.setLine n (k.echoed s o classes value)) v o code value
      | none => rxEntries quota (s.setLine n (k.echoed s o classes value)) v := by
  subst hv
  have hstate : (if (echoWanted o classes && k.mayEcho) = true then
        (s.setLine v.line k).onLine v.line fun l => Line.tend (s.setLine v.line k) (l.echo value)
      else s.setLine v.line k) = s.setLine v.line (k.echoed s o classes value) := by
    rw [State.onLine_setLine, Line.echoed]
    split <;> rfl
  simp only [storedBlock, State.line_setLine_self]
  rw [hstate] <;> rfl

/-- A line that echoes: the byte enters a free shifter and waits in holding otherwise. -/
theorem Line.tend_echo (hl : l.atRest s) (hn : l.holding = none) (hh : l.inHold = false) :
    Line.tend s (l.echo value) =
      if l.shifter = .empty then
        { l with ownByte := false, shifter := l.starting .character value [] (s.formatOf l) }
      else { l with holding := some { byte := value, first := false, last := false, source := .echo } } := by
  obtain ⟨hcount, hstopped⟩ := Line.holdTimer_of_holding_none hl hn
  split
  · next hs =>
    obtain ⟨habort, hunder, -⟩ := Line.idle_of_free hl hs hh
    have hload := Line.tend_character (s := s) (l := l.echo value) hs hh habort
      (Line.underruns_of_loaded hunder hn rfl) rfl (Bool.and_false _) hcount hstopped
    rw [hload, ← hn]
    rfl
  · next hs => exact Line.tend_of_busy_zero (.inl hs) hcount hstopped

/-! ### The answer -/

theorem leads_byteWrite {t : Txn} {quota : Nat} (hv : s.visit = some v) (hm : s.mem = some t)
    (ha : s.awaits t = true) (hr : ∃ b, t.request = .byteWrite b) (hp : v.point = .storeByte quota)
    (e : byteStored s.freeEngine v quota = u) : Leads (exec (.byteWrite t.tag .ok) s) u := by
  obtain ⟨b, hr⟩ := hr
  rw [exec_byteWrite]
  refine leads_answered hv hm ha ?_
  simpa only [answerByteWrite, State.awaited_self hv hm, hr, hp] using e

/-- Settles O44: the character counts and its entry leaves; Table 24, the echo and the next entry then say which close,
store or end of the visit follows. -/
theorem storedCharactersCountAndCloseBlocks : Obligations.StoredCharactersCountAndCloseBlocks := by
  unfold Obligations.StoredCharactersCountAndCloseBlocks
  intro s v t quota o value parity framing overrun classes rest hv hm ha hr hpoint l ho hq hl o' stored closeAs close
    mayEcho echoed markStop
  have arrives {u : State} : byteStored s.freeEngine v quota = u → Leads (exec (.byteWrite t.tag .ok) s) u :=
    leads_byteWrite hv hm ha hr hpoint
  have hcount : countStored s.freeEngine v o' = s.freeEngine.setLine v.line stored := by
    unfold countStored popHead setRxOrder
    rw [State.onLine_eq s.freeEngine, State.onLine_setLine, Line.pop_data (by exact hq)]
    rfl
  have hrest : stored.atRest s :=
    Line.atRest_of_agrees hl rfl rfl rfl rfl rfl rfl rfl rfl rfl (.inr (.inl rfl))
  have hmay : stored.mayEcho = true ↔ mayEcho := by
    change (l.txOrder.isNone && l.holding.isNone && !l.inHold) = true ↔ _
    simp [mayEcho, and_assoc]
  have hecho (h : mayEcho) : Line.tend s (stored.echo value) = echoed ∧ echoed.atRest s := by
    obtain ⟨-, hn, hh⟩ := h
    obtain ⟨hzero, hstopped⟩ := Line.holdTimer_of_holding_none hl hn
    refine ⟨Line.tend_echo hrest hn hh, ?_⟩
    simp only [echoed]
    split
    · exact Line.tend_of_busy_zero (.inl nofun) hzero hstopped
    · next hs => exact Line.tend_of_busy_zero (.inl hs) hzero hstopped
  have hstop : (markStopFlag o'.flags && classMark classes) = decide markStop := by
    rw [Bool.eq_iff_iff, Bool.and_eq_true, decide_eq_true_iff]
    rfl
  have blocks {k : Line} {failed : Bool} {u : State} (hm : o.mode ≠ .frame)
      (hk : stored.echoed s o' classes value = k) (hf : (echoWanted o' classes && !stored.mayEcho) = failed)
      (e : (match storedClosure o' overrun failed classes with
        | some code => closeRx (s.freeEngine.setLine v.line k) v o' code value
        | none => rxEntries quota (s.freeEngine.setLine v.line k) v) = u) :
      Leads (exec (.byteWrite t.tag .ok) s) u := by
    apply arrives
    have horder : (s.freeEngine.line v.line).rxOrder = some o := ho
    have hqueue : (s.freeEngine.line v.line).queue = .data value parity framing overrun classes :: rest := hq
    simp only [byteStored, horder, hqueue]
    rw [if_neg hm, hcount, storedBlock_setLine rfl, hf]
    subst hk
    exact e
  have closes (k : Line) (code : BitVec 5) (datum : Byte) (hm : o.mode ≠ .single) (hk : k.atRest s) :
      closeRx (s.freeEngine.setLine v.line k) v o' code datum = closeAs k datum code :=
    Eq.trans (closeRx_setLine rfl (by exact hk) o' code datum) (if_neg hm)
  have hclosure (failed : Bool) : storedClosure o' overrun failed classes =
      if overrun then some 6 else if failed then some 7 else if markStop then some 1
      else if o.count + 1 = o.length then some 0 else none := by
    unfold storedClosure
    rw [hstop]
    simp only [decide_eq_true_eq]
    rfl
  have closing {k : Line} {failed : Bool} {code : BitVec 5} (hm : o.mode = .block ∨ o.mode = .blockEcho)
      (hk : stored.echoed s o' classes value = k) (hf : (echoWanted o' classes && !stored.mayEcho) = failed)
      (hc : storedClosure o' overrun failed classes = some code) (hkr : k.atRest s) :
      Leads (exec (.byteWrite t.tag .ok) s) (closeAs k value code) := by
    refine blocks (by rcases hm with h | h <;> rw [h] <;> nofun) hk hf ?_
    rw [hc]
    exact closes k code value (by rcases hm with h | h <;> rw [h] <;> nofun) hkr
  have going {k : Line} {failed : Bool} {u : State} (hm : o.mode = .block ∨ o.mode = .blockEcho)
      (hk : stored.echoed s o' classes value = k) (hf : (echoWanted o' classes && !stored.mayEcho) = failed)
      (hc : storedClosure o' overrun failed classes = none)
      (e : rxEntries quota (s.freeEngine.setLine v.line k) v = u) : Leads (exec (.byteWrite t.tag .ok) s) u := by
    refine blocks (by rcases hm with h | h <;> rw [h] <;> nofun) hk hf ?_
    rw [hc]
    exact e
  have silent (h : echoWanted o' classes = false) :
      stored.echoed s o' classes value = stored ∧ (echoWanted o' classes && !stored.mayEcho) = false := by
    simp [Line.echoed, h]
  have hwanted : echoWanted o' classes = (o.mode == .blockEcho && !decide markStop) := by
    rw [← hstop]
    rfl
  have wanted (hm : o.mode = .blockEcho) (hmark : ¬markStop) : echoWanted o' classes = true := by
    rw [hwanted, decide_eq_false hmark, hm]
    rfl
  have unwanted (h : o.mode = .block ∨ markStop) : echoWanted o' classes = false := by
    rw [hwanted]
    rcases h with h | h
    · rw [h]
      rfl
    · rw [decide_eq_true h]
      exact Bool.and_false _
  refine ⟨?_, ?_, ?_, ?_, ?_, ?_, ?_, ?_, ?_⟩
  · -- RX BLOCK: OVERRUN (Table 24).
    intro hm hover
    obtain ⟨hk, hf⟩ := silent (unwanted (.inl hm))
    exact closing (.inl hm) hk hf (by rw [hclosure, if_pos hover]) hrest
  · -- RX BLOCK: MARKED.
    intro hm hover hmark
    obtain ⟨hk, hf⟩ := silent (unwanted (.inl hm))
    exact closing (.inl hm) hk hf (by rw [hclosure, hover, if_neg nofun, if_neg nofun, if_pos hmark]) hrest
  · -- RX BLOCK: DONE.
    intro hm hover hmark hdone
    obtain ⟨hk, hf⟩ := silent (unwanted (.inl hm))
    exact closing (.inl hm) hk hf
      (by rw [hclosure, hover, if_neg nofun, if_neg nofun, if_neg hmark, if_pos hdone]) hrest
  · -- RX BLOCK: the next character.
    intro q next overrun' classes' more hquota hnext h
    obtain ⟨hm, hover, hmark, hdone⟩ := h
    obtain ⟨hk, hf⟩ := silent (unwanted (.inl hm))
    refine going (.inl hm) hk hf
      (by rw [hclosure, hover, if_neg nofun, if_neg nofun, if_neg hmark, if_neg hdone]) ?_
    subst hquota
    exact rxEntries_stores (k := stored) rfl rfl (.inl hm) hnext
  · -- RX BLOCK: IDLE (R76).
    intro hm hover hmark hdone hne hnil hidle
    obtain ⟨hk, hf⟩ := silent (unwanted (.inl hm))
    refine going (.inl hm) hk hf
      (by rw [hclosure, hover, if_neg nofun, if_neg nofun, if_neg hmark, if_neg hdone]) ?_
    refine Eq.trans (rxEntries_nil (k := stored) rfl rfl hnil) ?_
    refine Eq.trans (rxIdleTest_closes (k := stored) rfl rfl hm hidle hne hnil) ?_
    refine closes _ codeIdle 0 (by rw [hm]; nofun) ?_
    exact Line.atRest_of_agrees hl rfl rfl rfl rfl rfl rfl rfl rfl rfl (.inr (.inl rfl))
  · -- RX BLOCK_ECHO: MARKED, without an echo (R73).
    intro hm hmark
    obtain ⟨hk, hf⟩ := silent (unwanted (.inr hmark))
    refine closing (.inr hm) hk hf ?_ hrest
    rw [hclosure, if_neg (c := false = true) nofun, if_pos hmark]
    split_ifs <;> rfl
  · -- RX BLOCK_ECHO: NOT_ECHOED (R73).
    intro hm hmark hnot
    have hcannot : stored.mayEcho = false := by rw [← Bool.not_eq_true, hmay]; exact hnot
    refine closing (.inr hm) (k := stored) (failed := true) (by simp [Line.echoed, hcannot])
      (by rw [wanted hm hmark, hcannot]; rfl) ?_ hrest
    rw [hclosure, if_pos (c := true = true) rfl]
    split_ifs <;> rfl
  · -- RX BLOCK_ECHO: the echo (R73).
    intro hm hmark hcan
    obtain ⟨htend, hkr⟩ := hecho hcan
    have hk : stored.echoed s o' classes value = echoed := by
      rw [Line.echoed, wanted hm hmark, hmay.2 hcan]
      exact htend
    have hf : (echoWanted o' classes && !stored.mayEcho) = false := by rw [hmay.2 hcan]; exact Bool.and_false _
    refine ⟨fun hdone => ?_, fun q next overrun' classes' more hquota hnext hover hdone => ?_⟩
    · refine closing (.inr hm) hk hf ?_ hkr
      rw [hclosure, if_neg (c := false = true) nofun, if_neg hmark]
      rcases hdone with h | h
      · rw [if_pos h, if_pos h]
      · rw [if_pos h]
        split_ifs <;> rfl
    · refine going (.inr hm) hk hf
        (by rw [hclosure, hover, if_neg nofun, if_neg nofun, if_neg hmark, if_neg hdone]) ?_
      subst hquota
      have horder : echoed.rxOrder = some o' ∧ echoed.queue = rest := by
        simp only [echoed]
        split <;> exact ⟨rfl, rfl⟩
      exact rxEntries_stores rfl horder.1 (.inr hm) (horder.2.trans hnext)
  · -- RX FRAME goes on (R117).
    intro hp hm hquota hnone hattn htxc
    obtain ⟨-, hheld, hseq, hpower, hreq⟩ := hp
    apply arrives
    have horder : (s.freeEngine.line v.line).rxOrder = some o := ho
    have hqueue : (s.freeEngine.line v.line).queue = .data value parity framing overrun classes :: rest := hq
    simp only [byteStored, horder, hqueue]
    rw [if_pos hm, hcount, hquota]
    refine Eq.trans (rxIdleTest_quiet (k := stored) rfl rfl (.inl (by rw [hm]; nofun))) ?_
    rw [txStep_of_nothing (by rw [State.line_setLine_self]; exact hnone) htxc hattn]
    exact endVisit_plain hheld hseq hpower hreq

end Sys2Proof.Machine
end


section
/-! Failed transactions (R72, R89, R125, R143 to R148): an error answer and a timeout lead to the same outcome, which
fails the line or closes its order. -/

namespace Sys2Proof.Machine

variable {s u : State} {l k : Line} {n : LineNo} {v : Visit} {t : Txn}

/-! ### Error answers and the timeout (R143) -/

theorem leads_wordRead_error (hv : s.visit = some v) (hm : s.mem = some t) (ha : s.awaits t = true)
    (hr : t.request = .wordRead) (e : txnFault s.freeEngine v t .busError = u) :
    Leads (exec (.wordRead t.tag .error) s) u := by
  rw [exec_wordRead]
  refine leads_answered hv hm ha ?_
  simpa only [answerWordRead, State.awaited_self hv hm, hr] using e

theorem leads_wordWrite_error {w : Word} (hv : s.visit = some v) (hm : s.mem = some t) (ha : s.awaits t = true)
    (hr : t.request = .wordWrite w) (e : txnFault s.freeEngine v t .busError = u) :
    Leads (exec (.wordWrite t.tag .error) s) u := by
  rw [exec_wordWrite]
  refine leads_answered hv hm ha ?_
  simpa only [answerWordWrite, State.awaited_self hv hm, hr] using e

theorem leads_byteWrite_error {b : Byte} (hv : s.visit = some v) (hm : s.mem = some t) (ha : s.awaits t = true)
    (hr : t.request = .byteWrite b) (e : txnFault s.freeEngine v t .busError = u) :
    Leads (exec (.byteWrite t.tag .error) s) u := by
  rw [exec_byteWrite]
  refine leads_answered hv hm ha ?_
  rw [← e]
  simp only [answerByteWrite, State.awaited_self hv hm, hr]

theorem leads_byteRead_error (hv : s.visit = some v) (hm : s.mem = some t) (ha : s.awaits t = true)
    (hr : t.request = .byteRead) (e : txnFault s.freeEngine v t .busError = u) :
    Leads (exec (.byteRead t.tag .error) s) u := by
  rw [exec_byteRead]
  refine leads_answered hv hm ha ?_
  simpa only [answerByteRead, State.awaited_self hv hm, hr] using e

theorem leads_timeout (hv : s.visit = some v) (hm : s.mem = some t) (hholds : s.holdsDue = false)
    (hbeats : 2 ≤ t.beats) (e : txnFault s.freeEngine v t .timeout = u) : Leads (exec .timeout s) u := by
  have hdue : s.timeoutDue = true := State.timeoutDue_iff.2 ⟨v, t, hv, hm, hbeats⟩
  rw [exec_timeout]
  refine leads_expiry ?_
  rw [State.finishVisit, State.expireHolds, hholds, if_neg nofun, State.expireTimeout, if_pos hdue, ← e]
  simp only [timeOut, hv, hm]

/-! ### A line that fails (R145, R147, R148) -/

/-- A line at rest that becomes FAULTED starts nothing, unless an abort pair of its open frame can go at once. -/
theorem Line.tend_fail (hl : l.atRest s)
    (h : l.frameOpen = false ∨ l.shifter ≠ .empty ∨ l.inHold = true) :
    Line.tend s l.fail = { l.fail with holdCount := 0, holdStopped := false } := by
  by_cases hbusy : l.shifter ≠ .empty ∨ l.inHold = true
  · exact Line.tend_of_busy_empty (by exact hbusy) rfl
  · obtain ⟨hs, hh⟩ : l.shifter = .empty ∧ l.inHold = false := by simpa using hbusy
    obtain ⟨habort, hunder, hn⟩ := Line.idle_of_free hl hs hh
    have hopen : l.frameOpen = false := h.resolve_right hbusy
    have hcalm : l.fail.calm s := by
      refine .inr (.inr ⟨?_, Line.underruns_of_loaded hunder hn rfl, rfl⟩)
      simp [Line.fail, habort, hopen]
    rw [Line.tend_of_calm hcalm, Line.tendHoldTimer_eq]
    simp [Line.holdTimed, Line.fail]

/-- A fault on a fetch or a writeback (R145, R147). -/
theorem txnFault_line (hp : v.point.isBuffer = false) (cause : FaultCause) :
    txnFault s v t cause = lineFault (s.recordFault t cause) v t cause := by
  unfold txnFault
  split
  · next h => rw [h] at hp; cases hp
  · next h => rw [h] at hp; cases hp
  all_goals rfl

/-- Settles O46: an error answer and the timeout lead to the same outcome; a fetch or a writeback fails the line, a
buffer byte closes its order. -/
theorem memoryFaultsFailTheLineOrCloseTheOrder : Obligations.MemoryFaultsFailTheLineOrCloseTheOrder := by
  unfold Obligations.MemoryFaultsFailTheLineOrCloseTheOrder
  intro s v t hp hm hline l hl failed record e lineFails rxCloses
  obtain ⟨hv, hheld, hseq, hpower, hreq⟩ := hp
  have hrecord (cause : FaultCause) : s.freeEngine.recordFault t cause = record cause s.freeEngine := by
    rw [State.recordFault, hline]
    rfl
  have fails (cause : FaultCause) (code : BitVec 7) (hcode : BitVec.ofNat 7 (causeBits cause) = code)
      (hopen : l.frameOpen = false ∨ l.shifter ≠ .empty ∨ l.inHold = true) (hpoint : v.point.isBuffer = false) :
      txnFault s.freeEngine v t cause = lineFails cause code := by
    have hevent : lineFaultEvent t cause = e code := by
      rw [lineFaultEvent, hline, hcode]
    have htend : ((record cause s.freeEngine).onLine v.line fun l => Line.tend (record cause s.freeEngine) l.fail) =
        (record cause s.freeEngine).setLine v.line failed :=
      congrArg ((record cause s.freeEngine).setLine v.line) (Line.tend_fail (l := l) (by exact hl) hopen)
    rw [txnFault_line hpoint, lineFault, hevent, hrecord, htend, State.offer_cases]
    by_cases hroom : s.events.length < 32
    · rw [if_pos (by exact hroom)]
      refine (endVisit_plain (by exact hheld) (by exact hseq) (by exact hpower) (by exact hreq)).trans ?_
      simp only [lineFails, if_pos hroom]
      rfl
    · rw [if_neg (by exact hroom)]
      refine (endVisit_plain (by exact hheld) (by exact hseq) (by exact hpower) (by exact hreq)).trans ?_
      simp only [lineFails, if_neg hroom]
      rfl
  refine ⟨fun ha hopen hpoint => ⟨fun hr => ?_, fun w hr => ?_⟩, fun hholds hbeats hopen hpoint => ?_, ?_, ?_⟩
  · exact leads_wordRead_error hv hm ha hr (fails .busError 1 rfl hopen hpoint)
  · exact leads_wordWrite_error hv hm ha hr (fails .busError 1 rfl hopen hpoint)
  · exact leads_timeout hv hm hholds hbeats (fails .timeout 2 rfl hopen hpoint)
  · intro quota o value b parity framing overrun classes rest hpoint hr ho hmode hq
    have closes (cause : FaultCause) : txnFault s.freeEngine v t cause = rxCloses cause o value rest := by
      have horder : ((record cause s.freeEngine).line v.line).rxOrder = some o := ho
      have hqueue : ((record cause s.freeEngine).line v.line).queue =
          .data value parity framing overrun classes :: rest := hq
      let lost : Line :=
        { l with
          queue := rest
          pacing := pacingAfter l.pacing rest.length
          remnant := l.remnant || (o.mode == .frame && o.frameBegun) }
      have hlost : ((record cause s.freeEngine).onLine v.line fun l => l.pop.markRemnant o) =
          (record cause s.freeEngine).setLine v.line lost :=
        congrArg (fun l : Line => (record cause s.freeEngine).setLine v.line (l.markRemnant o)) (Line.pop_data hqueue)
      have hclose := closeRx_setLine (s := record cause s.freeEngine) (n := v.line) (v := v) (k := lost) rfl
        (Line.atRest_of_agrees hl rfl rfl rfl rfl rfl rfl rfl rfl rfl (.inr (.inl rfl))) o codeBusFault value
      simp only [txnFault, hpoint, hrecord, rxBufferFault, horder, hqueue, hlost]
      rw [hclose, if_neg hmode]
      rfl
    exact ⟨fun ha => leads_byteWrite_error hv hm ha hr (closes .busError),
      fun hholds hbeats => leads_timeout hv hm hholds hbeats (closes .timeout)⟩
  · intro o hpoint hr ho hmode started closes hopen
    have closed (cause : FaultCause) : txnFault s.freeEngine v t cause = closes cause := by
      have horder : ((record cause s.freeEngine).line v.line).txOrder = some o := ho
      let owing : Line := { l with abortPending := l.abortPending || started }
      have howing : ((record cause s.freeEngine).onLine v.line fun l =>
          { l with abortPending := l.abortPending || l.orderFrameOpen o }) =
          (record cause s.freeEngine).setLine v.line owing := rfl
      have hrest : Line.tend (record cause s.freeEngine) (owing.beginClose .tx) = owing.beginClose .tx := by
        obtain ⟨hcalm, htimer⟩ := Line.atRest_iff.1 hl
        refine Line.tend_eq_self ?_ (by exact htimer)
        rcases hopen with h | h | h
        · have hsame : owing = l := by
            simp only [owing, h, Bool.or_false]
          rw [hsame]
          exact hcalm
        · exact .inl h
        · exact .inr (.inl h)
      have hclose := closeTx_tended (s := record cause s.freeEngine) (n := v.line) (v := v) (k := owing) rfl o
        codeBusFault 0
      simp only [txnFault, hpoint, hrecord, txBufferFault, horder, howing]
      rw [hclose, if_pos hmode, hrest]
      rfl
    exact ⟨fun ha => leads_byteRead_error hv hm ha hr (closed .busError),
      fun hholds hbeats => leads_timeout hv hm hholds hbeats (closed .timeout)⟩

end Sys2Proof.Machine
end


section
/-! The end of a close (R16, R18) and of its visit (R29, R44, R158, R167). -/

namespace Sys2Proof.Machine

variable {s u : State} {l k : Line} {n : LineNo} {v : Visit} {t : Txn} {order : Word}

/-! ### The end of a visit as one equation -/

theorem State.lines_eq_ofFn {f : LineNo → Line} (h : ∀ n, s.line n = f n) : s.lines = Vector.ofFn f := by
  ext i hi
  rw [Vector.getElem_ofFn]
  exact h ⟨i, hi⟩

/-- The stable state that a visit's end leaves in ACTIVE (R29). -/
theorem State.settleSeq_active (hpower : s.power = .active) (hmay : s.seq.mayVisit = true) :
    s.settleSeq =
      { s with
        lines := s.settleSeq.lines
        seq := if s.seq = .quiescing then .quiesced else s.seq.afterVisit } := by
  have moves (q : SeqState) : s.moveSeq q = { s with seq := q } := by simp [State.moveSeq, hpower]
  cases hseq : s.seq with
  | running =>
    have hsettled : s.settleSeq = s := by simp [State.settleSeq, hseq]
    have hkept : (if SeqState.running = .quiescing then SeqState.quiesced else SeqState.running.afterVisit) = s.seq :=
      hseq.symm
    rw [hsettled, hkept]
  | pausing =>
    have hsettled : s.settleSeq = { s with seq := .paused } := by simp [State.settleSeq, hseq, moves]
    rw [hsettled]
    rfl
  | stopping =>
    have hsettled : s.settleSeq = { s with seq := .stopped } := by simp [State.settleSeq, hseq, moves]
    rw [hsettled]
    rfl
  | quiescing =>
    have hsettled : s.settleSeq = s.enterQuiesced := by simp [State.settleSeq, hseq]
    rw [hsettled, if_pos rfl]
    unfold State.enterQuiesced State.onLines
    rw [moves]
  | stopped | paused | quiesced =>
    rw [hseq] at hmay
    cases hmay

/-- A requested doze is entered where no transmit direction is ACTIVE (R158). -/
theorem State.enterRequestedDoze_active (hpower : s.power = .active) (hvisit : s.visit = none)
    (hbarred : s.dozeBarred = false) :
    s.enterRequestedDoze =
      { s with
        power := if s.req = .doze ∧ ∀ n, (s.line n).txOrder = none then .doze else .active
        idleBeats := if s.req = .doze ∧ ∀ n, (s.line n).txOrder = none then 0 else s.idleBeats } := by
  have hmay : s.mayDoze = true ↔ ∀ n, (s.line n).txOrder = none := by
    simp [State.mayDoze, State.anyTxActive, hpower, hvisit]
  unfold State.enterRequestedDoze
  simp only [hmay]
  split
  · rw [State.enterDoze_eq, hbarred]
    rfl
  · rw [← hpower]

/-- A visit that ends in ACTIVE (R29, R158). -/
theorem endVisit_active (hpower : s.power = .active) (hmay : s.seq.mayVisit = true) (hbarred : s.dozeBarred = false) :
    endVisit s v =
      { s with
        lines := (endVisit s v).lines
        visit := none
        mem := none
        seq := if s.seq = .quiescing then .quiesced else s.seq.afterVisit
        power := if s.req = .doze ∧ ∀ n, ((endVisit s v).line n).txOrder = none then .doze else .active
        idleBeats :=
          if s.req = .doze ∧ ∀ n, ((endVisit s v).line n).txOrder = none then 0 else s.idleBeats } := by
  obtain ⟨y, hy, hend⟩ : ∃ y : State, y = { s with lines := y.lines, visit := none, mem := none } ∧
      endVisit s v = y.settleSeq.enterRequestedDoze := by
    refine ⟨{ (if v.resetHeld then s.applyLineReset v.line else s) with visit := none, mem := none }, ?_, rfl⟩
    unfold State.applyLineReset
    split <;> rfl
  have hyseq : y.seq = s.seq := by rw [hy]
  have hsettled := State.settleSeq_active (s := y) (by rw [hy]; exact hpower) (by rw [hyseq]; exact hmay)
  rw [hyseq] at hsettled
  have hz : y.settleSeq =
      { s with
        lines := y.settleSeq.lines
        visit := none
        mem := none
        seq := if s.seq = .quiescing then .quiesced else s.seq.afterVisit } :=
    hsettled.trans (congrArg (fun z : State =>
      { z with
        lines := y.settleSeq.lines
        seq := if s.seq = SeqState.quiescing then .quiesced else s.seq.afterVisit }) hy)
  have hdoze := State.enterRequestedDoze_active (s := y.settleSeq) (by rw [hz]; exact hpower) (by rw [hz])
    (by rw [hz]; exact hbarred)
  have hreq : y.settleSeq.req = s.req := by rw [hz]
  have hlines : (endVisit s v).lines = y.settleSeq.lines := by rw [hend, hdoze]
  have hline (n : LineNo) : (endVisit s v).line n = y.settleSeq.line n :=
    congrArg (fun ls : Vector Line 16 => ls[n]) hlines
  have hcond : (s.req = .doze ∧ ∀ n, ((endVisit s v).line n).txOrder = none) ↔
      y.settleSeq.req = .doze ∧ ∀ n, (y.settleSeq.line n).txOrder = none := by simp only [hline, hreq]
  by_cases hp : y.settleSeq.req = .doze ∧ ∀ n, (y.settleSeq.line n).txOrder = none
  · rw [if_pos hp, if_pos hp] at hdoze
    rw [if_pos (hcond.2 hp), if_pos (hcond.2 hp), hlines]
    exact (hend.trans hdoze).trans (congrArg (fun z : State => { z with power := .doze, idleBeats := 0 }) hz)
  · rw [if_neg hp, if_neg hp] at hdoze
    rw [if_neg (mt hcond.1 hp), if_neg (mt hcond.1 hp), hlines]
    exact (hend.trans hdoze).trans (congrArg (fun z : State => { z with power := .active }) hz)

/-! ### The end event (R18) -/

theorem endEventDue_eq_false_iff :
    endEventDue order = false ↔ order.extractLsb' 3 5 = 0#5 ∧ order.getLsbD 25 = true := by
  have hquiet : quietFlag (flagBits order) = order.getLsbD 25 := by
    simp [quietFlag, flagBits]
  simp [endEventDue, hquiet, codeBits, codeDone]

theorem setWidth_code (c : BitVec 5) : c.setWidth 7 = 0#2 ++ c := by
  revert c
  decide

theorem leads_wordWrite (hv : s.visit = some v) (hm : s.mem = some t) (ha : s.awaits t = true)
    (hr : ∃ data, t.request = .wordWrite data) (e : wordWritten s.freeEngine v = u) :
    Leads (exec (.wordWrite t.tag .ok) s) u := by
  obtain ⟨data, hr⟩ := hr
  rw [exec_wordWrite]
  refine leads_answered hv hm ha ?_
  simpa only [answerWordWrite, State.awaited_self hv hm, hr] using e

/-- What a close leaves of its line once the direction is VACANT (R16, R62). -/
theorem Line.tend_vacate (d : Dir) (hl : l.atRest s) :
    Line.tend s (l.vacate d) =
      match d with
      | .rx => { l with rxOrder := none }
      | .tx => { l with txOrder := none, holdCount := 0, holdStopped := false } := by
  cases d with
  | rx => exact Line.atRest_of_agrees hl rfl rfl rfl rfl rfl rfl rfl rfl rfl (.inr (.inl rfl))
  | tx =>
    have hcalm : (l.vacate .tx).calm s := (Line.atRest_iff.1 hl).1
    rw [Line.tend_of_calm hcalm, Line.tendHoldTimer_eq]
    simp [Line.holdTimed, Line.vacate]

/-- Settles O43: the length word is followed by the order word; after that the direction is VACANT, the end event is
offered, and the visit ends, with what waited for its end. -/
theorem closesWriteBackAndVacate : Obligations.ClosesWriteBackAndVacate := by
  unfold Obligations.ClosesWriteBackAndVacate
  intro s v t order hv hm ha hr l
  have arrives {u : State} : wordWritten s.freeEngine v = u → Leads (exec (.wordWrite t.tag .ok) s) u :=
    leads_wordWrite hv hm ha hr
  refine ⟨fun d hpoint => ?_, ?_⟩
  · apply arrives
    simp only [wordWritten, hpoint]
    cases d <;> rfl
  intro d hpower hmay hbarred hpoint hl hattn htxc hrx vacant quiesced after u e
  have hafter (x : State) (hx : ∀ n, x.line n = (s.setLine v.line vacant).line n) (hseq : x.seq = s.seq) (n : LineNo) :
      (endVisit x v).line n = after n := by
    have hk : (if v.resetHeld = true ∧ n = v.line then Line.reset else if n = v.line then vacant else s.line n) =
        if n = v.line then (if v.resetHeld then Line.reset else vacant) else s.line n := by
      by_cases hn : n = v.line <;> simp [hn]
    rw [endVisit_line, hx, State.line_setLine, hseq]
    dsimp only
    rw [hk, Line.quiesce_eq]
  have ends (x : State) (hx : ∀ n, x.line n = (s.setLine v.line vacant).line n) (hseq : x.seq = s.seq)
      (hreq : x.req = s.req) (hp : x.power = s.power) (hb : x.dozeBarred = s.dozeBarred) :
      endVisit x v = { x with
        lines := Vector.ofFn after
        visit := none
        mem := none
        seq := if s.seq = .quiescing then .quiesced else s.seq.afterVisit
        power := if s.req = .doze ∧ ∀ n, (after n).txOrder = none then .doze else .active
        idleBeats := if s.req = .doze ∧ ∀ n, (after n).txOrder = none then 0 else x.idleBeats } := by
    have hend := endVisit_active (s := x) (v := v) (hp.trans hpower) (hseq ▸ hmay) (hb.trans hbarred)
    have hcond : (x.req = .doze ∧ ∀ n, ((endVisit x v).line n).txOrder = none) ↔
        s.req = .doze ∧ ∀ n, (after n).txOrder = none := by simp only [hafter x hx hseq, hreq]
    rw [State.lines_eq_ofFn (hafter x hx hseq), hseq] at hend
    by_cases hdoze : s.req = .doze ∧ ∀ n, (after n).txOrder = none
    · rw [if_pos (hcond.2 hdoze), if_pos (hcond.2 hdoze)] at hend
      rw [if_pos hdoze, if_pos hdoze]
      exact hend
    · rw [if_neg (mt hcond.1 hdoze), if_neg (mt hcond.1 hdoze)] at hend
      rw [if_neg hdoze, if_neg hdoze]
      exact hend
  have hvacant : Line.tend s.freeEngine ((s.freeEngine.line v.line).vacate d) = vacant :=
    (Line.tend_vacate d (by exact hl)).trans (by cases d <;> rfl)
  have closes {x : State} (e : endVisit ((s.freeEngine.setLine v.line vacant).offerEnd d v.line order) v = x) :
      Leads (exec (.wordWrite t.tag .ok) s) x := by
    apply arrives
    rw [← e]
    simp only [wordWritten, hpoint, closeEnds]
    rw [State.onLine_eq, hvacant]
    cases d with
    | tx => rfl
    | rx =>
      refine txStep_of_nothing ?_ htxc hattn
      have hline : ((s.freeEngine.setLine v.line vacant).offerEnd .rx v.line order).line v.line = vacant := by
        unfold State.offerEnd
        split
        · rw [State.offer_line, State.line_setLine_self]
        · rw [State.line_setLine_self]
      rw [hline]
      exact hrx rfl
  have hbeats : (if s.req = .doze ∧ ∀ n, (after n).txOrder = none then 0 else s.idleBeats) = s.idleBeats ∨
      (if s.req = .doze ∧ ∀ n, (after n).txOrder = none then 0 else s.idleBeats) = 0 := by
    split
    · exact .inr rfl
    · exact .inl rfl
  by_cases hquiet : order.extractLsb' 3 5 = 0#5 ∧ order.getLsbD 25 = true
  · rw [if_pos hquiet]
    refine (closes ?_).of_idleBeats hbeats
    rw [State.offerEnd, endEventDue_eq_false_iff.2 hquiet]
    exact ends (s.freeEngine.setLine v.line vacant) (fun _ => rfl) rfl rfl rfl rfl
  · have hdue : endEventDue order = true := by
      rw [← Bool.not_eq_false, endEventDue_eq_false_iff]
      exact hquiet
    have hevent : endEvent d v.line order = e := by
      cases d with
      | rx => exact congrArg (fun a => ({ endEvent .rx v.line order with a := a } : EventRec)) (setWidth_code _)
      | tx => exact congrArg (fun a => ({ endEvent .tx v.line order with a := a } : EventRec)) (setWidth_code _)
    rw [if_neg hquiet]
    by_cases hroom : s.events.length < 32
    · rw [if_pos hroom]
      refine (closes ?_).of_idleBeats hbeats
      rw [State.offerEnd, hdue, if_pos rfl, hevent, State.offer_cases, if_pos (by exact hroom)]
      exact ends { s.freeEngine.setLine v.line vacant with events := s.events ++ [e] } (fun _ => rfl) rfl rfl rfl rfl
    · rw [if_neg hroom]
      refine (closes ?_).of_idleBeats hbeats
      rw [State.offerEnd, hdue, if_pos rfl, hevent, State.offer_cases, if_neg (by exact hroom)]
      exact ends { s.freeEngine.setLine v.line vacant with overflow := true, lost := min 65535 (s.lost + 1) }
        (fun _ => rfl) rfl rfl rfl rfl

end Sys2Proof.Machine
end
